-- ==== Sys2Proof/Word.lean ====
section
/-! DEFINITION. The word types of the TS7 (11 R190: a word is 32 bits, fields are octets). -/

namespace Sys2Proof

/-- An octet of CRAM or of a link frame. -/
abbrev Byte := BitVec 8

/-- A 16-bit quantity: a cycle number, a segment id, a CRC, an echo. -/
abbrev Half := BitVec 16

/-- A 32-bit word of CRAM or of a register. -/
abbrev Word := BitVec 32

end Sys2Proof
end

