-- ==== Sys2Proof/Syntax.lean ====
section
/-! DEFINITION. The commands of the TS7: one constructor for each row of spec/opcode_table.json.

A command that comes from outside carries `dt`, the microseconds that pass between the command
before it and its own moment (log entry 1). A step the part takes of itself comes at the moment its
rule gives and carries no time. An order's own step (LINK_CONFIGURE to CLOSE_PAGE) carries no operand:
ORD read its kind and arguments from the slot at the taking (10 R178). -/

namespace Sys2Proof

/-- One command of the block. -/
inductive Instr where
  /-- R189: power is applied. -/
  | powerOnReset (dt : Nat)
  /-- R186: a full write of CTRL whose PART_RESET bit is 1. -/
  | partReset (dt : Nat) (value : Word)
  /-- R189: a PCIe function-level reset. -/
  | functionLevelReset (dt : Nat)
  /-- R189: the completion of the reset in progress. -/
  | resetCompletion (dt : Nat)
  /-- R186, R119: a full write of CTRL whose PART_RESET bit is 0. -/
  | commanded (dt : Nat) (value : Word)
  /-- R187: a read of `count` bytes of NEWS from byte `first` on. -/
  | newsRead (dt : Nat) (first count : Nat)
  /-- R188: a full write of NEWS_EN. -/
  | newsEnWrite (dt : Nat) (value : Word)
  /-- R185: a register write that has no effect. -/
  | ignoredRegisterWrite (dt : Nat) (offset : Nat) (bytes : List Byte)
  /-- R172: a host write of `bytes` to CRAM from offset `addr` on. -/
  | hostCramWrite (dt : Nat) (addr : Nat) (bytes : List Byte)
  /-- R24, R25: LNK acts on the TAKEN LINK_CONFIGURE. -/
  | linkConfigure
  /-- R40, R41: LNK acts on the TAKEN RUN_STATE READY. -/
  | runStateReady
  /-- R40, R42: LNK acts on the TAKEN RUN_STATE RUN. -/
  | runStateRun
  /-- R40, R43: LNK acts on the TAKEN RUN_STATE HALT. -/
  | runStateHalt
  /-- R2: STU starts the copy of the TAKEN LOAD_SCHEDULE. -/
  | loadSchedule
  /-- R2 to R6: the 40 µs copy ends. -/
  | scheduleCopyEnd
  /-- R7: STU acts on the TAKEN CANCEL_PENDING. -/
  | cancelPending
  /-- R15, R16: STU acts on the TAKEN SET_MODE. -/
  | setMode
  /-- R15, R21: STU acts on the TAKEN OPERATOR_TRIM. -/
  | operatorTrim
  /-- R52: LNK acts on the TAKEN NODE_REJOIN. -/
  | nodeRejoin
  /-- R136, R137: TRP acts on the TAKEN TRIP_RESET. -/
  | tripReset
  /-- R143, R144: EVC acts on the TAKEN COUNTER_PROGRAM. -/
  | counterProgram
  /-- R168: RPT acts on the TAKEN CLOSE_PAGE. -/
  | closePage
  /-- R22, R23: the next link cycle starts. -/
  | cycleStart
  /-- R26, R191: a frame of these octets has been received, its last octet now. -/
  | reply (dt : Nat) (octets : List Byte)
  /-- R28: the reply deadline T_rd. -/
  | replyDeadline
  /-- R31: the computation in progress reaches its compute end. -/
  | computeEnd
  /-- R32: the command offset T_cmd. -/
  | commandOffset
  /-- R118: TRIP_IN goes low. -/
  | tripInLow (dt : Nat)
  /-- R118: TRIP_IN goes high. -/
  | tripInHigh (dt : Nat)
  deriving DecidableEq, Repr

end Sys2Proof
end

