-- ==== Sys2Proof/Decode.lean ====
section
/-! DEFINITION. Words that spell commands. spec/opcode_table.json gives no row any bits, so no word spells a
command (log entry 4). -/

namespace Sys2Proof

/-- The command a word of `nbits` bits spells by the table's bits: the table gives none. -/
def decodeTableWord (_nbits _w : Nat) : Option Instr := none

end Sys2Proof
end

