-- ==== Sys2Proof/Config.lean ====
section
/-! DEFINITION. What the TS7 fixes as numbers, and the free values: opaque constants with no body, so that no
proof can see them (log entry 8). -/

namespace Sys2Proof.Config

/-- R185: ID bits 31 to 16. -/
def partCode : Nat := 0x7C5A
/-- R185: ID bits 15 to 0. -/
def revision : Nat := 0x0001
/-- R171, 11.2: the CRAM window. -/
def cramSize : Nat := 0x40000
/-- R2: µs of a schedule copy. -/
def copyTime : Nat := 40
/-- R189: the longest time from the taking of a reset to its completion, in µs. -/
def resetTime : Nat := 150
/-- R31: µs of every computation. -/
def computeBase : Nat := 16
/-- R31: µs for each stand in service at compute start. -/
def computeStand : Nat := 12
/-- R31: µs for each point crossing. -/
def computeCrossing : Nat := 6
/-- R10, R31: µs for each stand switch charged. -/
def computeSwitch : Nat := 40
/-- R13: F_on of a stand without a stand entry, kN. -/
def defaultFOn : Nat := 500
/-- R13: F_off of a stand without a stand entry, kN. -/
def defaultFOff : Nat := 200
/-- R45, R24: the warn limit W of a reset, and of a record that gives 0. -/
def defaultW : Nat := 96
/-- R70: the capacity of the segment table. -/
def tableSize : Nat := 128
/-- R35: the capacity of the reply log. -/
def logSize : Nat := 32
/-- R132: the capacity of the subsequent list. -/
def listSize : Nat := 15
/-- 09: the report places of a page. -/
def pagePlaces : Nat := 63
/-- R53: the clean cycles of a readmission. -/
def cleanCycles : Nat := 128

/-- FREE VALUE (log entry 8). The received address the reply log shows for a frame of fewer than three octets:
R35 logs an address and R191 gives such a frame none. The argument is the number of free values used before. -/
opaque shortFrameAddress : Nat → Byte

/-- FREE VALUE (log entry 8). The reference, before it is clamped to the stand's limits, that a RUN SET frame
carries for an in-service stand whose committed reference is OPEN_FULL: R33 and R34 bound it and do not give it.
The argument is the number of free values used before. -/
opaque openFullReference : Nat → Int

/-- FREE VALUE (log entry 8). S_open of a stand its schedule dummies: R33 and R94 use it, and 1.2 gives such a stand
no entry to hold one. The arguments are the schedule's serial and the stand number; a value in µm, before it is
limited to 0 to 99,999. -/
opaque dummiedOpen : Nat → Nat → Int

end Sys2Proof.Config
end

