-- ==== Sys2Proof/Machine/Memory.lean ====
section
/-! DEFINITION. The bytes of CRAM as a list of cells in one canonical form (10 R171): addresses strictly rising,
no cell whose byte is 0, which is what an unlisted address reads as (R175, R189). -/

namespace Sys2Proof.Machine

/-- CRAM contents. -/
abbrev Memory := List Host.Cell

/-- The byte at an address; 0 where nothing is listed (R171, R175). -/
def Memory.read : Memory → Nat → Byte
  | [], _ => 0
  | (b, v) :: m, a => if b = a then v else Memory.read m a

/-- The cells of consecutive bytes from `lo` on, zero bytes left out. -/
def Memory.cells : Nat → List Byte → Memory
  | _, [] => []
  | lo, b :: bs => if b = 0 then Memory.cells (lo + 1) bs else (lo, b) :: Memory.cells (lo + 1) bs

/-- Consecutive bytes written from `lo` on. -/
def Memory.write (m : Memory) (lo : Nat) (bs : List Byte) : Memory :=
  m.filter (fun c => decide (c.1 < lo)) ++
    (Memory.cells lo bs ++ m.filter (fun c => decide (lo + bs.length ≤ c.1)))

/-- The canonical form: addresses strictly rising, no zero byte listed. -/
abbrev Memory.wf (m : Memory) : Prop :=
  m.Pairwise (fun c d => c.1 < d.1) ∧ ∀ c ∈ m, c.2 ≠ 0

/-- The bytes kept whose address passes a test, all others read zero. -/
def Memory.keep (m : Memory) (p : Nat → Bool) : Memory := m.filter (fun c => p c.1)

/-- R190: the four bytes of a word, least significant first. -/
def wordBytes (w : Word) : List Byte :=
  [w.extractLsb' 0 8, w.extractLsb' 8 8, w.extractLsb' 16 8, w.extractLsb' 24 8]

/-- R190, R191: the two bytes of a 16-bit field, least significant first. -/
def halfBytes (h : Half) : List Byte := [h.extractLsb' 0 8, h.extractLsb' 8 8]

/-- R190: a word from its bytes, the first least significant. -/
def bytesWord (b0 b1 b2 b3 : Byte) : Word := b3 ++ b2 ++ b1 ++ b0

/-- R190: the word at an address. -/
def Memory.readWord (m : Memory) (a : Nat) : Word :=
  bytesWord (m.read a) (m.read (a + 1)) (m.read (a + 2)) (m.read (a + 3))

/-- `n` words from an address on. -/
def Memory.readWords (m : Memory) (a : Nat) : Nat → List Word
  | 0 => []
  | n + 1 => m.readWord a :: Memory.readWords m (a + 4) n

/-- Consecutive words written from an address on. -/
def Memory.writeWords (m : Memory) (a : Nat) (ws : List Word) : Memory :=
  m.write a (ws.flatMap wordBytes)

/-- One word written. -/
def Memory.writeWord (m : Memory) (a : Nat) (w : Word) : Memory := m.write a (wordBytes w)

/-- A word that holds four bytes, byte 0 first (R190). -/
def packBytes (b0 b1 b2 b3 : Nat) : Word :=
  BitVec.ofNat 32 (b0 % 256 + 256 * (b1 % 256) + 65536 * (b2 % 256) + 16777216 * (b3 % 256))

end Sys2Proof.Machine
end

