-- ==== Sys2Proof/Machine/Table.lean ====
section
/-! DEFINITION. A fixed number of like things: the seven stand positions, the eight counters. -/

namespace Sys2Proof.Machine

/-- A list of exactly `n` entries. -/
structure Table (n : Nat) (α : Type) where
  /-- The entries. -/
  list : List α
  /-- There are `n` of them. -/
  len : list.length = n
  deriving DecidableEq, Repr

/-- The entry at an index. -/
def Table.get {n : Nat} {α : Type} (t : Table n α) (i : Fin n) : α :=
  t.list[i.val]'(by rw [t.len]; exact i.isLt)

/-- One entry replaced. -/
def Table.set {n : Nat} {α : Type} (t : Table n α) (i : Fin n) (v : α) : Table n α :=
  ⟨t.list.set i.val v, by simp [t.len]⟩

/-- One entry changed. -/
def Table.modify {n : Nat} {α : Type} (t : Table n α) (i : Fin n) (f : α → α) : Table n α :=
  t.set i (f (t.get i))

/-- Every entry changed alike. -/
def Table.map {n : Nat} {α β : Type} (t : Table n α) (f : α → β) : Table n β :=
  ⟨t.list.map f, by simp [t.len]⟩

/-- The same value everywhere. -/
def Table.fill (n : Nat) {α : Type} (v : α) : Table n α := ⟨List.replicate n v, by simp⟩

/-- The entries a function of the index gives. -/
def Table.build {n : Nat} {α : Type} (f : Fin n → α) : Table n α :=
  ⟨(List.finRange n).map f, by simp⟩

end Sys2Proof.Machine
end

