-- ==== Sys2Proof/Machine/State.lean ====
section
/-! DEFINITION. Every piece of state the manual gives the TS7, as plain data, and the state after a completed
power-on reset. One structure per block of 00_scope.md; State joins them. -/

namespace Sys2Proof.Machine

/-! ## Names -/

/-- A stand position: stand k of the manual is index k − 1. -/
abbrev Stand := Fin 7

/-- 11.8: what a node measures or drives. -/
inductive Role where
  | gap | force | speed | exitGauge
  deriving DecidableEq, Repr

/-- R46 to R53: the health state of a node. -/
inductive Health where
  | active | warned | degraded | excluded | rejoining
  deriving DecidableEq, Repr

/-- R30: the mark of a node's value. -/
inductive Mark where
  | fresh | held | none
  deriving DecidableEq, Repr

/-- R26, R27: a verdict. -/
inductive Verdict where
  | good | crc | form | duplicate | late | unknown | missing
  deriving DecidableEq, Repr

/-- R40: the run state. -/
inductive RunState where
  | halted | ready | run
  deriving DecidableEq, Repr

/-- R40: the target of a RUN_STATE order. -/
inductive Target where
  | halt | ready | run
  deriving DecidableEq, Repr

/-- 1.1: whether a stand holds strip. -/
inductive Bite where
  | empty | loaded
  deriving DecidableEq, Repr

/-- R13: a change of bite state at a compute start. -/
inductive BiteChange where
  | none | headOn | tailOff
  deriving DecidableEq, Repr

/-- 1.1: the schedule a stand uses. -/
inductive Use where
  | none | active | pending
  deriving DecidableEq, Repr

/-- R16: the requested mode. -/
inductive Requested where
  | position | gauge
  deriving DecidableEq, Repr

/-- R17: the effective mode. -/
inductive Effective where
  | position | gaugeWait | locking | gaugeHeld | gauge
  deriving DecidableEq, Repr

/-- 4.7: the tracking state. -/
inductive TrackState where
  | idle | normal | degraded | lost
  deriving DecidableEq, Repr

/-- R67: the zone of a segment. -/
inductive Zone where
  | head | body | tail
  deriving DecidableEq, Repr

/-- R107: the quality class. -/
inductive Quality where
  | inBand | thick | thin | noReading
  deriving DecidableEq, Repr

/-- R68: the removal kind. -/
inductive Removal where
  | gauge | stripEnd | flush
  deriving DecidableEq, Repr

/-- R110: why the monitor update was not made. -/
inductive MonitorReason where
  | none | notBody | noHx | flagged | tripped | gaugeExcluded | noActive | flushed
  deriving DecidableEq, Repr

/-- R172: why a word of a host write was dropped. -/
inductive Violation where
  | none | partArea | bodyFrozen | subWord | illegalTransition
  deriving DecidableEq, Repr

/-- 7.2, R116: a trip cause with its location. -/
inductive Cause where
  | headLost (span : Stand)
  | unloadOrder (stand : Stand)
  | loadUnexpected (stand : Stand)
  | nodeLost (address : Byte) (stand : Stand)
  | gapDeviation (stand : Stand)
  | counter (n : Fin 8)
  | halt
  | powerOn
  | partReset
  | forceLimit (stand : Stand)
  | external
  | commanded
  | linkSilent
  deriving DecidableEq, Repr

/-- R143: the event group of a counter. -/
inductive EventGroup where
  | off | segment | link | gap | track
  deriving DecidableEq, Repr

/-- R152, R153: the overflow action. -/
inductive Overflow where
  | none | notice | trip
  deriving DecidableEq, Repr

/-- 8.3: the subevents of the four groups. -/
inductive Subevent where
  | inBand | thick | thin | noReading | degradedSeg | tripFlushed
  | crc | form | missing | duplicate | late | unknown | toDegraded | toExcluded
  | stepLimited | authority | range | deviation | lateResult
  | created | earlyHead | slip | reused
  deriving DecidableEq, Repr

/-- R189: the two kinds of reset. -/
inductive ResetKind where
  | powerOn | part
  deriving DecidableEq, Repr

/-- 11.8: the outcome codes. -/
inductive OrderOutcome where
  | ok | badKind | badArgument | wrongState | tripped | pendingBusy | switchInProgress
  | nodeMissing | notExcluded | causePresent | nothingToDo
  deriving DecidableEq, Repr

/-! ## Host interface -/

/-- R187: the seven bits of NEWS, and of NEWS_EN. -/
structure News where
  order : Bool
  page : Bool
  trip : Bool
  node : Bool
  counter : Bool
  coil : Bool
  capture : Bool
  deriving DecidableEq, Repr

/-- R174: the last violation record. -/
structure LastViolation where
  offset : Word
  reason : Violation
  time : Word
  deriving DecidableEq, Repr

/-- What HIF holds besides NEWS: the guard-violation count and record (R174), the status write number (R183). -/
structure Hif where
  violations : Word
  last : LastViolation
  statusNumber : Word
  deriving DecidableEq, Repr

/-- R189: a reset in progress, since when, and for its first-out record the run state at its taking (R140). -/
structure ResetInProgress where
  kind : ResetKind
  takenAt : Nat
  runBefore : RunState
  deriving DecidableEq, Repr

/-! ## Orders -/

/-- R178: what ORD read in the kind word, a RUN_STATE with its target; the last two are refused at the taking
(R178, R40). -/
inductive OrderKind where
  | linkConfigure
  | runState (target : Target)
  | loadSchedule
  | cancelPending
  | setMode
  | operatorTrim
  | nodeRejoin
  | tripReset
  | counterProgram
  | closePage
  | badKind (word : Word)
  | badTarget
  deriving DecidableEq, Repr

/-- How far a TAKEN order is: handed to its owner, which has yet to act; waiting for a cycle start or compute
start (R180); or a schedule copy that ends at a moment (R2), with no words when its offset was bad. -/
inductive Phase where
  | handed
  | waiting
  | copying (endAt : Nat) (copy : Option (List Word))
  deriving DecidableEq, Repr

/-- R178: the TAKEN order. -/
structure Taken where
  slot : Fin 32
  kind : OrderKind
  args : List Word
  phase : Phase
  deriving DecidableEq, Repr

/-- ORD: the posting queue, oldest first, and the TAKEN order (R177, R178). -/
structure OrderUnit where
  queue : List (Fin 32)
  taken : Option Taken
  deriving DecidableEq, Repr

/-! ## Link -/

/-- What a REPLY frame carries beside its address (2.3). -/
structure ReplyData where
  nodeReady : Bool
  valueValid : Bool
  localFault : Bool
  stripPresent : Bool
  value : Nat
  echo : Half
  deriving DecidableEq, Repr

/-- R27: an arrival charged to a node in a reply window; the data is there for GOOD. -/
structure Charge where
  address : Byte
  verdict : Verdict
  offset : Nat
  data : Option ReplyData
  deriving DecidableEq, Repr

/-- R35: an entry of the reply log. -/
structure LogEntry where
  address : Byte
  verdict : Verdict
  offset : Nat
  deriving DecidableEq, Repr

/-- R36, R46: a node of the node table. `stand` is absent for EXIT_GAUGE. -/
structure Node where
  address : Byte
  role : Role
  stand : Option Stand
  health : Health
  errors : Nat
  clean : Nat
  value : Option Nat
  strip : Bool
  mark : Mark
  held : Nat
  result : Option Bool
  verdicts : List Verdict
  lastGood : Option Nat
  nodeReady : Bool
  localFault : Bool
  echo : Option (Half × Half)
  deriving DecidableEq, Repr

/-- R22, R28, R35: a link cycle from its cycle start on. `due`: the moment of R28 has come; `started`: its
compute start has come; `offsetPassed`: its T_cmd has passed; `ended`: its computation has reached compute
end. -/
structure Cycle where
  number : Half
  startAt : Nat
  awaited : List Byte
  charges : List Charge
  log : List LogEntry
  overflow : Bool
  due : Bool
  started : Bool
  offsetPassed : Bool
  ended : Bool
  deriving DecidableEq, Repr

/-- R24: T_cyc, T_rd, T_cmd in µs. -/
structure Timing where
  cyc : Nat
  rd : Nat
  cmd : Nat
  deriving DecidableEq, Repr

/-- LNK. -/
structure Lnk where
  runState : RunState
  nodes : List Node
  timing : Option Timing
  warn : Nat
  cycleNumber : Half
  cycle : Option Cycle
  waiting : List Cycle
  published : List LogEntry
  publishedOverflow : Bool
  silence : Nat
  deriving DecidableEq, Repr

/-! ## Stands and schedules -/

/-- 1.2: a stand entry, its 22 fields in record order. -/
structure StandEntry where
  sSet : Nat
  sMin : Nat
  sMax : Nat
  sOpen : Nat
  c : Nat
  f0 : Nat
  hTgt : Nat
  kg : Nat
  kf : Nat
  share : Nat
  dStep : Nat
  iMax : Nat
  trimMax : Nat
  nLock : Nat
  fOn : Nat
  fOff : Nat
  fMax : Nat
  dSpan : Nat
  win : Nat
  slip : Nat
  devLim : Nat
  nDev : Nat
  deriving DecidableEq, Repr

/-- 1.2: a schedule. A stand is in service when it has an entry. `serial` is the model's own number of the
schedule (log entry 10). -/
structure Schedule where
  serial : Nat
  coilId : Word
  vSeg : Nat
  vBar : Nat
  vTail : Nat
  hFin : Nat
  tol : Nat
  km : Nat
  miMax : Nat
  entries : Table 7 (Option StandEntry)
  deriving DecidableEq, Repr

/-- 1.3: a schedule in a slot, with its bar-started flag (R12). -/
structure HeldSchedule where
  sched : Schedule
  barStarted : Bool
  deriving DecidableEq, Repr

/-- 1.1: a stand record. -/
structure StandRec where
  use : Use
  bite : Bite
  debounce : Nat
  requested : Requested
  effective : Effective
  trim : Int
  lockCount : Nat
  lockSum : Nat
  deriving DecidableEq, Repr

/-- STU. `switchCharge`: switches to be charged to the next computation (R10). -/
structure Stu where
  stands : Table 7 StandRec
  active : Option HeldSchedule
  pending : Option HeldSchedule
  switchCharge : Nat
  nextSerial : Nat
  deriving DecidableEq, Repr

/-! ## Tracking -/

/-- 4.5: a segment. The thickness list has an entry per stand crossed, in stand order. -/
structure Segment where
  id : Half
  coilId : Word
  serial : Nat
  pathLen : Nat
  zone : Zone
  degraded : Bool
  reused : Bool
  trip : Bool
  noGauge : Bool
  list : List (Stand × Option Nat)
  sum : Nat
  count : Nat
  gaugeSum : Nat
  gaugeCount : Nat
  deriving DecidableEq, Repr

/-- R64: the creation record. -/
structure Creation where
  coilId : Word
  serial : Nat
  pathLen : Nat
  reused : Bool
  sum : Nat
  count : Nat
  segCount : Nat
  volume : Nat
  deriving DecidableEq, Repr

/-- R78: a head window; it belongs to the stand at whose index it stands. -/
structure Window where
  target : Stand
  span : Nat
  win : Nat
  travel : Nat
  deriving DecidableEq, Repr

/-- TRK. `tripFlush`: a trip has latched and its flush is still owed (R76). -/
structure Trk where
  state : TrackState
  segs : List Segment
  creation : Option Creation
  q : Table 7 Nat
  qGauge : Nat
  gaugeSpeed : Nat
  windows : Table 7 (Option Window)
  nextId : Half
  created : Word
  speedLost : Bool
  tripFlush : Bool
  deriving DecidableEq, Repr

/-! ## Gap computer and monitor -/

/-- R94, R103: a reference as GAP records it. -/
inductive Ref where
  | um (v : Int)
  | openFull
  deriving DecidableEq, Repr

/-- R103: the computed values of a stand. -/
structure Computed where
  hgm : Option Int
  e : Option Int
  u : Option Int
  i : Option Int
  ff : Option Int
  m : Option Int
  deriving DecidableEq, Repr

/-- 5.1: a stand record of GAP. -/
structure GapRec where
  integrator : Int
  hLock : Option Int
  committed : Option Ref
  rPrev : Option Int
  devCount : Nat
  computed : Computed
  formed : Option Ref
  late : Bool
  deriving DecidableEq, Repr

/-- R105: an entry of the coil figures list. -/
structure Figures where
  serial : Nat
  coilId : Word
  hFin : Nat
  tol : Nat
  km : Nat
  deriving DecidableEq, Repr

/-- R106, R107: the quality assessment of a segment. -/
structure Assessment where
  hx : Option Int
  em : Option Int
  quality : Quality
  deriving DecidableEq, Repr

/-- R114: the last assessment record. -/
structure LastAssessment where
  id : Half
  coilId : Word
  kind : Removal
  zone : Zone
  quality : Quality
  hx : Option Int
  em : Option Int
  applied : Bool
  reason : MonitorReason
  clamped : Bool
  change : Int
  miAfter : Int
  deriving DecidableEq, Repr

/-- GAP. -/
structure Gap where
  stands : Table 7 GapRec
  mi : Int
  figures : List Figures
  last : Option LastAssessment
  deriving DecidableEq, Repr

/-! ## Trip -/

/-- R129: the stand figures of a first-out record. -/
structure StandFigures where
  s : Option Nat
  sMark : Mark
  f : Option Nat
  fMark : Mark
  rPrev : Option Int
  bite : Bite
  deriving DecidableEq, Repr

/-- R129: the first-out record. -/
structure FirstOut where
  cause : Cause
  time : Word
  cycle : Half
  runBefore : RunState
  figures : Option StandFigures
  deriving DecidableEq, Repr

/-- R117: the present level causes. -/
structure Present where
  external : Bool
  commanded : Bool
  linkSilent : Bool
  forceLimit : Table 7 Bool
  deriving DecidableEq, Repr

/-- TRP: what the trip record shows (R135). -/
structure Trp where
  latch : Bool
  firstOut : Option FirstOut
  list : List (Cause × Word)
  unlisted : Nat
  present : Present
  armed : Bool
  feed : Table 7 (Option Stand)
  deriving DecidableEq, Repr

/-! ## Counters and reports -/

/-- 8.1: a counter. -/
structure Counter where
  group : EventGroup
  subevents : BitVec 8
  zones : BitVec 3
  stands : BitVec 7
  perCoil : Bool
  action : Overflow
  preset : Word
  value : Word
  flag : Bool
  deriving DecidableEq, Repr

/-- EVC. -/
structure Evc where
  counters : Table 8 Counter
  lastCoil : Option Word
  deriving DecidableEq, Repr

/-- R146: an event. -/
structure Event where
  group : EventGroup
  sub : Subevent
  zone : Option Zone
  stand : Option Stand
  deriving DecidableEq, Repr

/-- RPT; the page states and headers stand in CRAM (9.1). -/
structure Rpt where
  current : Fin 16
  lastSeq : Word
  pendingLost : Word
  reported : Word
  lost : Word
  deriving DecidableEq, Repr

/-! ## The computation in progress -/

/-- What step 2 of R86 forms for a stand: the computed values, the reference, the integrator candidate, and the
events it will raise at compute end (R99). -/
structure Formed where
  computed : Computed
  ref : Ref
  candidate : Int
  stepLimited : Bool
  authority : Bool
  range : Bool
  deviation : Bool
  inService : Bool
  zone : Option Zone
  deriving DecidableEq, Repr

/-- R60, R62, R85, R87: what a computation reads of a stand at its compute start, before any switch made in it: the
schedule it uses and its entry; its GAP, FORCE and SPEED values with their marks; its bite change; h_gm; exit
speed and travel; whether it is the entry point; whether this is an entry head-on, and a reuse (R12). -/
structure StandSnap where
  sched : Option Schedule
  entry : Option StandEntry
  gap : Option Nat × Mark
  force : Option Nat × Mark
  speed : Option Nat × Mark
  change : BiteChange
  hgm : Option Nat
  exitSpeed : Nat
  travel : Nat
  entryPoint : Bool
  entryHeadOn : Bool
  reuse : Bool
  deriving DecidableEq, Repr

/-- R31: the computation in progress. `working`: its work of compute start is being done (a switch made in it is
charged to it, R10). `setup`: the schedule each stand used at its compute start, which a stand that switches in it keeps
in the SET frame until its compute end (R32). -/
structure Computation where
  number : Half
  cycleAt : Nat
  late : Bool
  working : Bool
  startTime : Word
  endAt : Nat
  crossings : Nat
  switches : Nat
  switched : Table 7 Bool
  setup : Table 7 (Option Schedule)
  gaugeExcluded : Bool
  formed : Table 7 Formed
  deriving DecidableEq, Repr

/-! ## The state -/

/-- The TS7. `pending`, `clock`, `freeCount`, `linkOut`, `irqSignals`, `readData` are the model's own
(INVENTORY.md). -/
structure State where
  /-- Commands that wait, first in, first out. -/
  pending : List Instr
  /-- µs since State.reset. -/
  clock : Nat
  /-- Free values used so far. -/
  freeCount : Nat
  /-- TIME (R185). -/
  time : Word
  /-- The reset in progress (R189). -/
  resetting : Option ResetInProgress
  /-- TRIP_IN is high (R118). -/
  tripIn : Bool
  /-- TRIP_OUT is energized (R131). -/
  tripOut : Bool
  /-- CTRL.COMMANDED (R186). -/
  ctrlCommanded : Bool
  /-- NEWS (R187). -/
  news : News
  /-- NEWS_EN (R188). -/
  newsEn : News
  /-- The interrupt request is active (R188). -/
  irq : Bool
  /-- Passes of the request from inactive to active (R188). -/
  irqSignals : Nat
  /-- What the last read of NEWS returned (R187). -/
  readData : Word
  /-- CRAM (R171). -/
  cram : Memory
  /-- Host Interface. -/
  hif : Hif
  /-- Order Unit. -/
  ord : OrderUnit
  /-- Link Controller. -/
  lnk : Lnk
  /-- Frames sent, oldest first. -/
  linkOut : List (List Byte)
  /-- Stand Unit. -/
  stu : Stu
  /-- Tracking Unit. -/
  trk : Trk
  /-- Gap Computer. -/
  gap : Gap
  /-- Trip Unit. -/
  trp : Trp
  /-- The trip record write number m (R135). -/
  tripNumber : Word
  /-- Event Counter Unit. -/
  evc : Evc
  /-- Report Writer. -/
  rpt : Rpt
  /-- The computation in progress. -/
  comp : Option Computation
  deriving DecidableEq, Repr

/-! ## How a step can stop -/

/-- The model's faults. -/
inductive Fault where
  /-- Raised by HOST_CRAM_WRITE for a write that does not lie inside the 256 KiB window (10.1): there is no such
  CRAM address. Safe: the model stops (log entry 6). -/
  | outsideWindow
  deriving DecidableEq, Repr

/-- The model's refusals. -/
inductive Refusal where
  /-- Raised by an arm of exec whose command has no meaning yet. Safe: the model stops. -/
  | notModelled (mnemonic : String)
  deriving DecidableEq, Repr

/-! ## Reset values of the blocks -/

/-- NEWS with no bit set. -/
def News.zero : News := ⟨false, false, false, false, false, false, false⟩

/-- R174. -/
def Hif.reset : Hif := ⟨0, ⟨0, .none, 0⟩, 0⟩

/-- R189. -/
def OrderUnit.reset : OrderUnit := ⟨[], none⟩

/-- R45. -/
def Lnk.reset : Lnk := ⟨.halted, [], none, Config.defaultW, 0, none, [], [], false, 0⟩

/-- R1. -/
def StandRec.reset : StandRec := ⟨.none, .empty, 0, .position, .position, 0, 0, 0⟩

/-- R1, R5. -/
def Stu.reset : Stu := ⟨Table.fill 7 StandRec.reset, none, none, 0, 0⟩

/-- R61, with the next segment id a reset leaves. -/
def Trk.reset (nextId : Half) : Trk :=
  ⟨.idle, [], none, Table.fill 7 0, 0, 0, Table.fill 7 none, nextId, 0, false, false⟩

/-- R84. -/
def Computed.absent : Computed := ⟨none, none, none, none, none, none⟩

/-- R84. -/
def GapRec.reset : GapRec := ⟨0, none, none, none, 0, Computed.absent, none, false⟩

/-- R84, R105, R113, R114. -/
def Gap.reset : Gap := ⟨Table.fill 7 GapRec.reset, 0, [], none⟩

/-- R140: TRP at the taking of a reset. -/
def Trp.reset (cause : Cause) (runBefore : RunState) : Trp :=
  ⟨true, some ⟨cause, 0, 0, runBefore, none⟩, [], 0, ⟨false, false, false, Table.fill 7 false⟩, false,
    Table.fill 7 none⟩

/-- R142. -/
def Counter.reset : Counter := ⟨.off, 0, 0, 0, false, .none, 0, 0, false⟩

/-- R142. -/
def Evc.reset : Evc := ⟨Table.fill 8 Counter.reset, none⟩

/-- R158. -/
def Rpt.reset : Rpt := ⟨0, 1, 0, 0, 0⟩

/-- CRAM as the completion of a power-on reset leaves it, word by word (R189, 11.2, 11.5, 11.6). -/
def Memory.afterPowerOn : Memory :=
  let absent : Word := 0x80000000
  let gapStand : List Word :=
    [0, absent, absent, absent, 0, absent, absent, absent, absent, absent, absent, absent, 0, 0, 0, 0]
  let standLive : List Word := [packBytes 0 0 0 1, packBytes 1 0 0 0, 0, 0]
  let m : Memory := []
  -- identity and area directory
  let m := m.writeWords 0x00000
    [0x7C5A, 0x0001, 0x40000, 0x00000, 0x100, 0x00100, 0x100, 0x00400, 0x400, 0x01000, 0x1000,
     0x02000, 0x1000, 0x08000, 0x8000, 0x10000, 0x10000, 32, 128, 16, 4096]
  -- capture area: arm word ARMED
  let m := m.writeWords 0x00100 [1, 0, 0, 0, 0]
  -- trip record: m = 1, latch set, first-out POWER_ON, no stand figures
  let m := m.writeWords 0x00400 [1, 1, 1, 8, 0, 0, 0, absent, absent, absent, 0]
  -- status area: n = 1, HALTED, latch set
  let m := m.writeWords 0x01000 [1, 1, packBytes 0 1 0 0]
  let m := m.writeWord 0x01024 0xFFFFFFFF
  let m := m.writeWord 0x0103C (packBytes 0 1 0 0)
  let m := m.writeWord 0x0105C 0xFFFFFFFF
  let m := m.writeWords 0x01210 [0, 0xFFFFFFFF, 0, 0, absent, absent, 0, absent, absent]
  let m := m.writeWords 0x01240 ((List.replicate 7 standLive).flatten)
  let m := m.writeWords 0x012B0 ((List.replicate 7 gapStand).flatten)
  -- page headers
  let m := m.writeWords 0x10000 [1, 1, 0, 0, 0xFFFFFFFF]
  (List.range 15).foldl (fun m p => m.writeWord (0x11010 + 0x1000 * p) 0xFFFFFFFF) m

/-- The machine right after a power-on reset has completed with TRIP_IN high (R189; log entries 5 and 7). -/
def State.reset : State where
  pending := []
  clock := 0
  freeCount := 0
  time := 0
  resetting := none
  tripIn := true
  tripOut := false
  ctrlCommanded := false
  news := { News.zero with trip := true }
  newsEn := News.zero
  irq := false
  irqSignals := 0
  readData := 0
  cram := Memory.afterPowerOn
  hif := { Hif.reset with statusNumber := 1 }
  ord := OrderUnit.reset
  lnk := Lnk.reset
  linkOut := []
  stu := Stu.reset
  trk := Trk.reset 0
  gap := Gap.reset
  trp := Trp.reset .powerOn .halted
  tripNumber := 1
  evc := Evc.reset
  rpt := Rpt.reset
  comp := none

end Sys2Proof.Machine
end

