-- ==== Sys2Proof/Machine/Ops.lean ====
section
/-! DEFINITION. Shared operations: rounding, the passage of time, schedules and stands, node values, the words
of CRAM that carry state. -/

namespace Sys2Proof.Machine

/-! ## Arithmetic -/

/-- 00 Rounding: a quotient rounded to the nearest integer, an exact half away from zero. -/
def roundDiv (n : Int) (d : Nat) : Int :=
  if 0 ≤ n then (((2 * n.toNat + d) / (2 * d) : Nat) : Int)
  else -(((2 * (-n).toNat + d) / (2 * d) : Nat) : Int)

/-- 00 Numbers: `v` limited to [lo, hi]. -/
def clampInt (lo hi v : Int) : Int := if v < lo then lo else if hi < v then hi else v

/-- 00 Numbers: `v` limited to ±x. -/
def clampAbs (x : Nat) (v : Int) : Int := clampInt (-(x : Int)) x v

/-- A mean of a sum over a count, rounded (R66); absent for a count of 0. -/
def meanOf (sum count : Nat) : Option Nat :=
  if count = 0 then none else some ((2 * sum + count) / (2 * count))

/-! ## Time -/

/-- The time base runs to the moment `t`: TIME rises by one each µs, and stands at 0 while a reset is in progress
(R185, R189). -/
def State.passTo (s : State) (t : Nat) : State :=
  if t ≤ s.clock then s
  else { s with
    clock := t
    time := if s.resetting.isSome then s.time else s.time + BitVec.ofNat 32 (t - s.clock) }

/-! ## Stands and schedules -/

/-- The stand positions in increasing order. -/
def allStands : List Stand := [0, 1, 2, 3, 4, 5, 6]

/-- The stand positions in decreasing order. -/
def standsDown : List Stand := [6, 5, 4, 3, 2, 1, 0]

/-- The number the manual gives a stand: 1 to 7. -/
def standNumber (k : Stand) : Nat := k.val + 1

/-- The stand a number from 1 to 7 names. -/
def standOf (n : Nat) : Option Stand := if h : 1 ≤ n ∧ n ≤ 7 then some ⟨n - 1, by omega⟩ else none

/-- 1.2: the mask has stand k. -/
def Schedule.inService (c : Schedule) (k : Stand) : Bool := (c.entries.get k).isSome

/-- R12: the entry stand. -/
def Schedule.entryStand (c : Schedule) : Option Stand := allStands.find? c.inService

/-- R60: the highest-numbered in-service stand. -/
def Schedule.lastStand (c : Schedule) : Option Stand := standsDown.find? c.inService

/-- 00 Terms: the previous in-service stand. -/
def Schedule.prevOf (c : Schedule) (k : Stand) : Option Stand :=
  standsDown.find? (fun j => decide (j < k) && c.inService j)

/-- 00 Terms: the next in-service stand. -/
def Schedule.nextOf (c : Schedule) (k : Stand) : Option Stand :=
  allStands.find? (fun j => decide (k < j) && c.inService j)

/-- R8: the first in-service stand numbered k or higher. -/
def Schedule.firstFrom (c : Schedule) (k : Stand) : Option Stand :=
  allStands.find? (fun j => decide (k ≤ j) && c.inService j)

/-- R67: the path length, the number of in-service stands. -/
def Schedule.pathLen (c : Schedule) : Nat := (allStands.filter c.inService).length

/-- The schedule in a slot. -/
def State.slotOf (s : State) : Use → Option HeldSchedule
  | .none => none
  | .active => s.stu.active
  | .pending => s.stu.pending

/-- The record of stand k. -/
def State.stand (s : State) (k : Stand) : StandRec := s.stu.stands.get k

/-- GAP's record of stand k. -/
def State.gapStand (s : State) (k : Stand) : GapRec := s.gap.stands.get k

/-- 1.1: the schedule stand k uses. -/
def State.schedOf (s : State) (k : Stand) : Option Schedule :=
  (s.slotOf (s.stand k).use).map (·.sched)

/-- 1.2: the stand entry of stand k in the schedule it uses. -/
def State.entryOf (s : State) (k : Stand) : Option StandEntry :=
  (s.schedOf k).bind (fun c => c.entries.get k)

/-- 1.1: stand k is in service. -/
def State.inService (s : State) (k : Stand) : Bool := (s.entryOf k).isSome

/-- R5: the switch progress. -/
def State.switchProgress (s : State) : Nat :=
  (allStands.filter (fun k => (s.stand k).use == .pending)).length

/-- The record of stand k changed. -/
def State.modifyStand (s : State) (k : Stand) (f : StandRec → StandRec) : State :=
  { s with stu := { s.stu with stands := s.stu.stands.modify k f } }

/-- GAP's record of stand k changed. -/
def State.modifyGap (s : State) (k : Stand) (f : GapRec → GapRec) : State :=
  { s with gap := { s.gap with stands := s.gap.stands.modify k f } }

/-! ## Node values -/

/-- 2.2: the node of a role and stand. -/
def State.nodeFor (s : State) (role : Role) (k : Option Stand) : Option Node :=
  s.lnk.nodes.find? (fun n => n.role == role && n.stand == k)

/-- R30: the value of a role and stand with its mark; "none" where the table has no such node. -/
def State.reading (s : State) (role : Role) (k : Option Stand) : Option Nat × Mark :=
  match s.nodeFor role k with
  | none => (none, .none)
  | some n => (n.value, n.mark)

/-- The node of a role and stand is EXCLUDED (R49). -/
def State.excluded (s : State) (role : Role) (k : Option Stand) : Bool :=
  match s.nodeFor role k with
  | none => false
  | some n => n.health == .excluded

/-- R24: T_cyc, 0 while unset. -/
def State.cycleTime (s : State) : Nat := (s.lnk.timing.map (·.cyc)).getD 0

/-! ## Words of CRAM that carry state -/

/-- 11.2: the first offset of the staging area. -/
def stagingBase : Nat := 0x08000

/-- 11.2: the size of the staging area. -/
def stagingSize : Nat := 0x8000

/-- 11.2: the first offset of an order slot. -/
def slotBase (i : Fin 32) : Nat := 0x02000 + 0x80 * i.val

/-- 11.2: the first offset of a report page. -/
def pageBase (p : Fin 16) : Nat := 0x10000 + 0x1000 * p.val

/-- 11.2: the offset of the capture arm word. -/
def armWordAt : Nat := 0x00100

/-- 11.8: slot state codes. -/
def slotEmpty : Word := 0
/-- 11.8. -/
def slotPosted : Word := 1
/-- 11.8. -/
def slotTaken : Word := 2
/-- 11.8. -/
def slotDone : Word := 3
/-- 11.8. -/
def slotRefused : Word := 4
/-- 11.8: page state codes. -/
def pageFree : Word := 0
/-- 11.8. -/
def pageFilling : Word := 1
/-- 11.8. -/
def pageFull : Word := 2
/-- 11.8: arm word codes. -/
def armArmed : Word := 1
/-- 11.8. -/
def armHeld : Word := 2
/-- R190: the absence code of a segment id, an index or a slot number. -/
def noIndex : Word := 0xFFFFFFFF

/-- A word of CRAM. -/
def State.word (s : State) (a : Nat) : Word := s.cram.readWord a

/-- A word of CRAM written by the part or accepted from the host. -/
def State.putWord (s : State) (a : Nat) (w : Word) : State :=
  { s with cram := s.cram.writeWord a w }

/-- Words of CRAM written by the part. -/
def State.putWords (s : State) (a : Nat) (ws : List Word) : State :=
  { s with cram := s.cram.writeWords a ws }

/-- 10.2: the state word of a slot. -/
def State.slotState (s : State) (i : Fin 32) : Word := s.word (slotBase i)

/-- 9.2: the state word of a page. -/
def State.pageState (s : State) (p : Fin 16) : Word := s.word (pageBase p)

/-- R37: the capture arm word. -/
def State.armWord (s : State) : Word := s.word armWordAt

/-- The next free value's argument is used up (log entry 8). -/
def State.useFree (s : State) : State := { s with freeCount := s.freeCount + 1 }

/-- A 32-bit count raised by 1 that stops at 2³² − 1 (R165, R174). -/
def satSucc (w : Word) : Word := if w = 0xFFFFFFFF then w else w + 1

end Sys2Proof.Machine
end

