-- ==== Sys2Proof/Machine/Layout.lean ====
section
/-! DEFINITION. The layouts of chapter 11: code values, the directory, the trip record, the status area, a page
header, a segment report, as words of CRAM. -/

namespace Sys2Proof.Machine

/-! ## Code values (11.8) -/

/-- 11.8. -/
def RunState.code : RunState → Nat
  | .halted => 0 | .ready => 1 | .run => 2
/-- 11.8. -/
def Role.code : Role → Nat
  | .gap => 1 | .force => 2 | .speed => 3 | .exitGauge => 4
/-- 11.8. -/
def Verdict.code : Verdict → Nat
  | .good => 1 | .crc => 2 | .form => 3 | .duplicate => 4 | .late => 5 | .unknown => 6 | .missing => 7
/-- 11.8. -/
def Mark.code : Mark → Nat
  | .fresh => 1 | .held => 2 | .none => 3
/-- 11.8. -/
def Health.code : Health → Nat
  | .active => 1 | .warned => 2 | .degraded => 3 | .excluded => 4 | .rejoining => 5
/-- 11.8. -/
def Requested.code : Requested → Nat
  | .position => 1 | .gauge => 2
/-- 11.8. -/
def Effective.code : Effective → Nat
  | .position => 1 | .gaugeWait => 2 | .locking => 3 | .gaugeHeld => 4 | .gauge => 5
/-- 11.8. -/
def Use.code : Use → Nat
  | .none => 0 | .active => 1 | .pending => 2
/-- 11.8. -/
def Bite.code : Bite → Nat
  | .empty => 0 | .loaded => 1
/-- 11.8. -/
def TrackState.code : TrackState → Nat
  | .idle => 0 | .normal => 1 | .degraded => 2 | .lost => 3
/-- 11.8. -/
def Zone.code : Zone → Nat
  | .head => 1 | .body => 2 | .tail => 3
/-- 11.8. -/
def Quality.code : Quality → Nat
  | .inBand => 1 | .thick => 2 | .thin => 3 | .noReading => 4
/-- 11.8. -/
def Removal.code : Removal → Nat
  | .gauge => 1 | .stripEnd => 2 | .flush => 3
/-- 11.8. -/
def MonitorReason.code : MonitorReason → Nat
  | .none => 0 | .notBody => 1 | .noHx => 2 | .flagged => 3 | .tripped => 4 | .gaugeExcluded => 5
  | .noActive => 6 | .flushed => 7
/-- 11.8. -/
def Violation.code : Violation → Nat
  | .none => 0 | .partArea => 1 | .bodyFrozen => 2 | .subWord => 3 | .illegalTransition => 4
/-- 11.8. -/
def Cause.code : Cause → Nat
  | .headLost _ => 1 | .unloadOrder _ => 2 | .loadUnexpected _ => 3 | .nodeLost _ _ => 4 | .gapDeviation _ => 5
  | .counter _ => 6 | .halt => 7 | .powerOn => 8 | .partReset => 9 | .forceLimit _ => 10 | .external => 11
  | .commanded => 12 | .linkSilent => 13
/-- 11.5: the location word of a cause. -/
def Cause.location : Cause → Nat
  | .headLost k => standNumber k
  | .unloadOrder k => standNumber k
  | .loadUnexpected k => standNumber k
  | .nodeLost a k => a.toNat + 256 * standNumber k
  | .gapDeviation k => standNumber k
  | .counter n => n.val
  | .halt => 0
  | .powerOn => 0
  | .partReset => 0
  | .forceLimit k => standNumber k
  | .external => 0
  | .commanded => 0
  | .linkSilent => 0
/-- 11.8. -/
def EventGroup.code : EventGroup → Nat
  | .off => 0 | .segment => 1 | .link => 2 | .gap => 3 | .track => 4
/-- 11.8. -/
def Overflow.code : Overflow → Nat
  | .none => 0 | .notice => 1 | .trip => 2
/-- 11.8. -/
def OrderOutcome.code : OrderOutcome → Word
  | .ok => 1 | .badKind => 2 | .badArgument => 3 | .wrongState => 4 | .tripped => 5 | .pendingBusy => 6
  | .switchInProgress => 7 | .nodeMissing => 8 | .notExcluded => 9 | .causePresent => 10 | .nothingToDo => 11
/-- 11.8: the bit of a subevent in the mask of its group. -/
def Subevent.bit : Subevent → Nat
  | .inBand => 0 | .thick => 1 | .thin => 2 | .noReading => 3 | .degradedSeg => 4 | .tripFlushed => 5
  | .crc => 0 | .form => 1 | .missing => 2 | .duplicate => 3 | .late => 4 | .unknown => 5 | .toDegraded => 6
  | .toExcluded => 7
  | .stepLimited => 0 | .authority => 1 | .range => 2 | .deviation => 3 | .lateResult => 4
  | .created => 0 | .earlyHead => 1 | .slip => 2 | .reused => 3
/-- 11.8: the bit of a zone in a zone filter. -/
def Zone.bit : Zone → Nat
  | .head => 0 | .body => 1 | .tail => 2

/-! ## Encodings of absent values (R190) -/

/-- R190: the absence code of a 32-bit µm quantity. -/
def absentUm : Word := 0x80000000

/-- R190: a µm quantity that may be absent. -/
def umWord : Option Int → Word
  | none => absentUm
  | some v => BitVec.ofInt 32 v

/-- R190: a node value or S or F that may be "none". -/
def natUm : Option Nat → Word
  | none => absentUm
  | some v => BitVec.ofNat 32 v

/-- 11.5: a recorded reference; OPEN_FULL reads 0xFFFFFFFE. -/
def refWord : Option Ref → Word
  | none => absentUm
  | some (.um v) => BitVec.ofInt 32 v
  | some .openFull => 0xFFFFFFFE

/-- A number as a word. -/
def natWord (n : Nat) : Word := BitVec.ofNat 32 n

/-- A flag as a byte. -/
def flagByte (b : Bool) : Nat := if b then 1 else 0

/-- R190: a coil id that may be absent, with its presence word. -/
def coilWords : Option Word → List Word
  | none => [0, 0]
  | some c => [c, 1]

/-- A list of words brought to `n` words, missing places 0 (R190). -/
def padWords (n : Nat) (ws : List Word) : List Word := (ws ++ List.replicate n 0).take n

/-- Bytes taken four at a time as words; the last word filled up with 0. -/
def wordsOfBytes : List Nat → List Word
  | [] => []
  | [a] => [packBytes a 0 0 0]
  | [a, b] => [packBytes a b 0 0]
  | [a, b, c] => [packBytes a b c 0]
  | a :: b :: c :: d :: rest => packBytes a b c d :: wordsOfBytes rest

/-! ## Directory (R176, 11.2) -/

/-- R176: the identity and area directory. -/
def directoryWords : List Word :=
  [natWord Config.partCode, natWord Config.revision, natWord Config.cramSize,
   0x00000, 0x100, 0x00100, 0x100, 0x00400, 0x400, 0x01000, 0x1000, 0x02000, 0x1000,
   0x08000, 0x8000, 0x10000, 0x10000, 32, 128, 16, 4096]

/-! ## Trip record (R135, 11.5) -/

/-- 11.5: the first-out record, 40 bytes; a cleared one has cause code 0. The S mark, F mark and bite bytes of a first-out
without stand figures have no absence code in 11.5 or R190: DESIGN CHOICE, 0 (log entry 17). -/
def firstOutWords : Option FirstOut → List Word
  | none => [0, 0, 0, 0, absentUm, absentUm, absentUm, 0, 0, 0]
  | some f =>
    [natWord f.cause.code, natWord f.cause.location, f.time,
     natWord (f.cycle.toNat + 65536 * f.runBefore.code)] ++
    (match f.figures with
     | none => [absentUm, absentUm, absentUm, 0]
     | some g => [natUm g.s, natUm g.f, umWord g.rPrev,
                  packBytes g.sMark.code g.fMark.code g.bite.code 1]) ++ [0, 0]

/-- A mask of stands: stand k at bit k − 1 (chapter 11). -/
def standMask (t : Table 7 Bool) : Nat :=
  (allStands.map (fun k => if t.get k then 2 ^ k.val else 0)).sum

/-- 11.5: the trip record with write number m at both ends. -/
def tripWords (m : Word) (t : Trp) : List Word :=
  [m, m, natWord (flagByte t.latch)] ++ firstOutWords t.firstOut ++
  [natWord t.list.length, natWord t.unlisted] ++
  padWords 45 (t.list.flatMap (fun e => [natWord e.1.code, natWord e.1.location, e.2])) ++
  [natWord (flagByte t.present.external + 2 * flagByte t.present.commanded +
     4 * flagByte t.present.linkSilent),
   natWord (standMask t.present.forceLimit),
   natWord (flagByte t.armed)] ++
  wordsOfBytes (t.feed.list.map (fun f => (f.map standNumber).getD 0))

/-! ## Status area (R183, R184, 11.5) -/

/-- 11.5: the status header, 128 bytes. -/
def headerWords (s : State) (n : Word) : List Word :=
  padWords 32 <|
    [n, n, natWord (s.lnk.runState.code + 256 * flagByte s.trp.latch + 65536 * s.lnk.cycleNumber.toNat),
     natWord s.lnk.nodes.length] ++
    coilWords (s.stu.active.map (·.sched.coilId)) ++
    coilWords (s.stu.pending.map (·.sched.coilId)) ++
    [packBytes s.switchProgress s.trk.state.code s.trk.segs.length (flagByte s.trk.creation.isSome),
     (s.trk.segs.head?.map (fun g => natWord g.id.toNat)).getD noIndex,
     natWord s.trk.nextId.toNat,
     s.trk.created, s.rpt.reported, s.rpt.lost, s.rpt.pendingLost,
     packBytes s.rpt.current.val (flagByte (s.pageState s.rpt.current == pageFilling)) 0 0,
     BitVec.ofInt 32 s.gap.mi,
     s.hif.violations, s.hif.last.offset, natWord s.hif.last.reason.code, s.hif.last.time] ++
    coilWords s.evc.lastCoil ++
    [(s.ord.taken.map (fun t => natWord t.slot.val)).getD noIndex]

/-- 11.5: the posting queue, 64 bytes. 11.5 gives the count no width: DESIGN CHOICE, a word, so that the slot bytes begin at
byte 4. R190 names the lists whose places beyond the count are written 0, and the queue is not among them: DESIGN CHOICE, 0
(log entry 17). -/
def queueWords (s : State) : List Word :=
  padWords 16 (natWord s.ord.queue.length :: wordsOfBytes (s.ord.queue.map (·.val)))

/-- 11.5: the open head windows, 64 bytes, in the order of their spans (log entry 17). -/
def windowWords (s : State) : List Word :=
  let entries := allStands.filterMap (fun k => (s.trk.windows.get k).map (fun w => (k, w)))
  padWords 16 (natWord entries.length ::
    (entries.take 6).flatMap (fun e =>
      [packBytes (standNumber e.1) (standNumber e.2.target) 0 0, natWord e.2.travel]))

/-- 11.5: the reply log of the last completed cycle, 272 bytes (log entry 17). -/
def logWords (s : State) : List Word :=
  padWords 68 ([natWord s.lnk.published.length, natWord (flagByte s.lnk.publishedOverflow), 0, 0] ++
    s.lnk.published.flatMap (fun e => [packBytes e.address.toNat e.verdict.code 0 0, natWord e.offset]))

/-- 11.5, R190: the last assessment record, 48 bytes; without a segment its µm fields, the change of MI and MI after the
removal among them, read their absence code. -/
def assessmentWords : Option LastAssessment → List Word
  | none => padWords 12 [0, noIndex, 0, 0, absentUm, absentUm, 0, absentUm, absentUm]
  | some a => padWords 12
      [1, natWord a.id.toNat, a.coilId,
       packBytes a.kind.code a.zone.code a.quality.code (flagByte a.applied),
       umWord a.hx, umWord a.em, packBytes a.reason.code (flagByte a.clamped) 0 0,
       BitVec.ofInt 32 a.change, BitVec.ofInt 32 a.miAfter]

/-- 11.5: a stand live record, 16 bytes. -/
def standWords (s : State) (k : Stand) : List Word :=
  let r := s.stand k
  [packBytes r.use.code (flagByte (s.inService k)) r.bite.code r.requested.code,
   packBytes r.effective.code r.lockCount 0 0, BitVec.ofInt 32 r.trim, 0]

/-- 11.5: a GAP stand record, 64 bytes (R103). -/
def gapWords (g : GapRec) : List Word :=
  [BitVec.ofInt 32 g.integrator, umWord g.hLock, refWord g.committed, umWord g.rPrev,
   packBytes g.devCount (flagByte g.late) 0 0,
   umWord g.computed.hgm, umWord g.computed.e, umWord g.computed.u, umWord g.computed.i,
   umWord g.computed.ff, umWord g.computed.m, refWord g.formed, 0, 0, 0, 0]

/-- 11.5: a counter, 20 bytes (R156; log entry 17). -/
def counterWords (c : Counter) : List Word :=
  [packBytes c.group.code c.action.code (flagByte c.perCoil) (flagByte c.flag),
   natWord c.subevents.toNat, packBytes c.zones.toNat c.stands.toNat 0 0, c.preset, c.value]

/-- 11.5: a node record, 40 bytes (R36). What its echo and echo lag, of 16 bits, read while the presence bit is clear R190 and
11.5 do not say: DESIGN CHOICE, 0 (log entry 17). -/
def nodeWords (n : Node) : List Word :=
  let echo := (n.echo.map (·.1)).getD 0
  let lag := (n.echo.map (·.2)).getD 0
  [packBytes n.address.toNat n.role.code ((n.stand.map standNumber).getD 0) n.health.code,
   packBytes n.errors n.clean n.mark.code
     (match n.result with | none => 0 | some true => 1 | some false => 2),
   natUm n.value,
   natWord (n.held + 65536 * echo.toNat),
   natWord (lag.toNat + 65536 * flagByte n.nodeReady + 131072 * flagByte n.localFault +
     262144 * flagByte n.strip + 16777216 * flagByte n.echo.isSome),
   (n.lastGood.map natWord).getD noIndex,
   natWord (min n.verdicts.length 255)] ++
  padWords 3 (wordsOfBytes ((n.verdicts.take 8).map (·.code)))

/-- R184, 11.5: the whole status area with write number n at both stamps. -/
def statusWords (s : State) (n : Word) : List Word :=
  headerWords s n ++ queueWords s ++ windowWords s ++ logWords s ++ assessmentWords s.gap.last ++
  allStands.flatMap (standWords s) ++ s.gap.stands.list.flatMap gapWords ++
  s.evc.counters.list.flatMap counterWords ++
  padWords 240 (s.lnk.nodes.flatMap nodeWords)

/-- R183: one status write. -/
def State.statusWrite (s : State) : State :=
  let n := s.hif.statusNumber + 1
  { s with
    hif := { s.hif with statusNumber := n }
    cram := s.cram.writeWords 0x01000 (statusWords s n) }

/-! ## Report pages (R161, 11.6) -/

/-- 11.6: a thickness entry: the thickness in bits 0 to 23, 0xFFFFFF when absent, the stand in bits 24 to 31. -/
def thicknessWord (e : Stand × Option Nat) : Word :=
  natWord ((e.2.getD 0xFFFFFF) % 16777216 + 16777216 * standNumber e.1)

/-- 11.6: a segment report, 64 bytes. The thickness places beyond the thickness count, which are not among the lists R190
names, are written 0 (DESIGN CHOICE, log entry 17). -/
def reportWords (g : Segment) (a : Assessment) (time : Word) : List Word :=
  [natWord (g.id.toNat + 65536 * g.zone.code + 16777216 * a.quality.code), g.coilId,
   natWord (flagByte g.degraded + 2 * flagByte g.reused + 4 * flagByte g.trip + 8 * flagByte g.noGauge),
   umWord a.hx, umWord a.em, time, natWord g.list.length] ++
  padWords 7 (g.list.map thicknessWord) ++ [0, 0]

end Sys2Proof.Machine
end

