-- ==== Sys2Proof/Machine/Operands.lean ====
section
/-! DEFINITION. What the part reads from host-written words: order kinds and arguments (11.3), the link
configuration record and the schedule record (11.4) with the checks of R24 and R3. -/

namespace Sys2Proof.Machine

/-- 11.3: the target of a RUN_STATE order. -/
def targetOf (w : Word) : Option Target :=
  if w = 1 then some .halt else if w = 2 then some .ready else if w = 3 then some .run else none

/-- R178, R40, 11.3: the kind word and the arguments as ORD reads them. -/
def parseKind (kind : Word) (args : List Word) : OrderKind :=
  match kind.toNat with
  | 1 => .linkConfigure
  | 2 => match targetOf (args.getD 0 0) with
    | some t => .runState t
    | none => .badTarget
  | 3 => .loadSchedule
  | 4 => .cancelPending
  | 5 => .setMode
  | 6 => .operatorTrim
  | 7 => .nodeRejoin
  | 8 => .tripReset
  | 9 => .counterProgram
  | 10 => .closePage
  | _ => .badKind kind

/-- R178, R40: an order refused at its taking, with its outcome and result words. -/
def OrderKind.rejected : OrderKind → Option (OrderOutcome × List Word)
  | .badKind w => some (.badKind, [w])
  | .badTarget => some (.badArgument, [0x0A, 0])
  | .linkConfigure => none
  | .runState _ => none
  | .loadSchedule => none
  | .cancelPending => none
  | .setMode => none
  | .operatorTrim => none
  | .nodeRejoin => none
  | .tripReset => none
  | .counterProgram => none
  | .closePage => none

/-- Argument word i of a TAKEN order. -/
def Taken.arg (t : Taken) (i : Nat) : Word := t.args.getD i 0

/-- The first row of a list of range checks that fails: field code, lowest, highest, value. -/
def firstOutside : List (Nat × Nat × Nat × Nat) → Option Nat
  | [] => none
  | (code, lo, hi, v) :: rest => if lo ≤ v ∧ v ≤ hi then firstOutside rest else some code

/-- The first check of a list that fails: field code, and whether the check holds. -/
def firstFailing : List (Nat × Bool) → Option Nat
  | [] => none
  | (code, ok) :: rest => if ok then firstFailing rest else some code

/-! ## Link configuration record (11.4, R24) -/

/-- 11.4: the length of a record holding 24 entries. -/
def linkRecordSize : Nat := 116

/-- 11.4: the length of a record holding seven stand entries. -/
def scheduleRecordSize : Nat := 736

/-- R2, R24: a staging offset is a multiple of 4 and the record from it on lies inside the staging area. -/
def stagingOffsetOk (offset size : Nat) : Bool :=
  offset % 4 == 0 && decide (offset + size ≤ stagingSize)

/-- 11.4: a node entry as read: address, role code, stand. -/
def readNodeEntry (m : Memory) (offset : Nat) (i : Nat) : Nat × Nat × Nat :=
  let a := stagingBase + offset + 0x14 + 4 * i
  ((m.read a).toNat, (m.read (a + 1)).toNat, (m.read (a + 2)).toNat)

/-- 11.8: a role code. -/
def roleOf (n : Nat) : Option Role :=
  match n with
  | 1 => some .gap
  | 2 => some .force
  | 3 => some .speed
  | 4 => some .exitGauge
  | _ => none

/-- R24 check 6: the field code of an entry's fault, if it has one. Of several faults of one entry R24 does not say which is
reported: DESIGN CHOICE, the address before the role before the stand (log entry 13). -/
def entryFault (e : Nat × Nat × Nat) : Option Nat :=
  if !(decide (1 ≤ e.1 ∧ e.1 ≤ 254)) then some 0x07
  else match roleOf e.2.1 with
    | none => some 0x08
    | some .exitGauge => if e.2.2 = 0 then none else some 0x09
    | some _ => if 1 ≤ e.2.2 ∧ e.2.2 ≤ 7 then none else some 0x09

/-- R24 check 6: the first entry at fault, with its field code and its index from 1. -/
def firstEntryFault : Nat → List (Nat × Nat × Nat) → Option (Nat × Nat)
  | _, [] => none
  | i, e :: es =>
    match entryFault e with
    | some code => some (code, i)
    | none => firstEntryFault (i + 1) es

/-- R24 check 7: the index, from 1, of the first address that stands in an earlier entry. Of several pairs that repeat, the
spec does not say which is reported: DESIGN CHOICE, the one whose later entry comes first (log entry 13). -/
def firstAddressRepeat : Nat → List Nat → List Nat → Option Nat
  | _, _, [] => none
  | i, seen, x :: xs => if x ∈ seen then some i else firstAddressRepeat (i + 1) (x :: seen) xs

/-- R24 check 8: the index, from 1, of the first role and stand that stand in an earlier entry. EXIT_GAUGE has no
stand to share; its number is check 9. Of several pairs that repeat, the one whose later entry comes first is reported
(DESIGN CHOICE, log entry 13). -/
def firstRoleRepeat : Nat → List (Nat × Nat) → List (Nat × Nat) → Option Nat
  | _, _, [] => none
  | i, seen, x :: xs =>
    if x.1 ≠ 4 ∧ x ∈ seen then some i else firstRoleRepeat (i + 1) (x :: seen) xs

/-- 2.2: a node of the table as a record entry gives it, before its link start. -/
def entryNode (e : Nat × Nat × Nat) : Node :=
  let role := (roleOf e.2.1).getD .exitGauge
  { address := BitVec.ofNat 8 e.1, role := role
    stand := if role = .exitGauge then none else standOf e.2.2
    health := .active, errors := 0, clean := 0, value := none, strip := false, mark := .none, held := 0
    result := none, verdicts := [], lastGood := none, nodeReady := false, localFault := false, echo := none }

/-- R24 checks 3 to 9 and the record's content: a refusal's result words, or the node table, the timing and W. -/
def readLinkRecord (m : Memory) (offset : Nat) : Except (List Word) (List Node × Timing × Nat) :=
  let w (i : Nat) : Nat := (m.readWord (stagingBase + offset + 4 * i)).toNat
  let (cyc, rd, cmd, warn0, count) := (w 0, w 1, w 2, w 3, w 4)
  let warn := if warn0 = 0 then Config.defaultW else warn0
  let entries := (List.range count).map (readNodeEntry m offset)
  if !(decide (1 ≤ count ∧ count ≤ 24)) then .error [0x02, 0]
  else if !(decide (250 ≤ cyc ∧ cyc ≤ 2000 ∧ cyc % 50 = 0)) then .error [0x03, 0]
  else if !(decide (50 ≤ rd ∧ rd + 50 ≤ cyc)) then .error [0x04, 0]
  else if !(decide (rd + 8 ≤ cmd ∧ cmd + 40 ≤ cyc)) then .error [0x05, 0]
  else if !(decide (1 ≤ warn ∧ warn ≤ 127)) then .error [0x06, 0]
  else match firstEntryFault 1 entries with
    | some (code, i) => .error [natWord code, natWord i]
    | none =>
      match firstAddressRepeat 1 [] (entries.map (·.1)) with
      | some i => .error [0x07, natWord i]
      | none =>
        match firstRoleRepeat 1 [] (entries.map (·.2)) with
        | some i => .error [0x08, natWord i]
        | none =>
          if (entries.filter (fun e => e.2.1 == 4)).length = 1 then
            .ok (entries.map entryNode, ⟨cyc, rd, cmd⟩, warn)
          else .error [0x08, 0]

/-! ## Schedule record (11.4, R3) -/

/-- 11.4: word i of a copied schedule record. -/
def recWord (copy : List Word) (i : Nat) : Word := copy.getD i 0

/-- 11.4: word i of a copied schedule record, as a number. -/
def recNat (copy : List Word) (i : Nat) : Nat := (recWord copy i).toNat

/-- 1.2, 11.4: stand entry n of the record, n from 0. -/
def readEntry (copy : List Word) (n : Nat) : StandEntry :=
  let w (i : Nat) : Nat := recNat copy (16 + 24 * n + i)
  { sSet := w 0, sMin := w 1, sMax := w 2, sOpen := w 3, c := w 4, f0 := w 5, hTgt := w 6, kg := w 7
    kf := w 8, share := w 9, dStep := w 10, iMax := w 11, trimMax := w 12, nLock := w 13, fOn := w 14
    fOff := w 15, fMax := w 16, dSpan := w 17, win := w 18, slip := w 19, devLim := w 20, nDev := w 21 }

/-- 11.4: the stands the mask word sets, in increasing order. -/
def maskStands (mask : Word) : List Stand := allStands.filter (fun k => mask.getLsbD k.val)

/-- R3: each in-service stand gets the entry of its place in the mask. -/
def placeEntries (copy : List Word) (stands : List Stand) : Table 7 (Option StandEntry) :=
  Table.build (fun k => if k ∈ stands then some (readEntry copy (stands.idxOf k)) else none)

/-- R3 check 1: the coil part's ranges, in record order. -/
def coilRanges (copy : List Word) : List (Nat × Nat × Nat × Nat) :=
  let w (i : Nat) : Nat := recNat copy i
  [(0x21, 1, 127, w 1), (0x22, 1, 7, w 2), (0x23, 100, 100000, w 3), (0x24, 1000, 50000000, w 4),
   (0x25, 0, w 4, w 5), (0x26, 500, 20000, w 6), (0x27, 1, 500, w 7), (0x28, 0, 4095, w 8),
   (0x29, 0, 2000, w 9)]

/-- R3 check 4: the ranges of a stand entry, in record order. -/
def entryRanges (e : StandEntry) : List (Nat × Nat × Nat × Nat) :=
  [(0x40, 0, 60000, e.sSet), (0x41, 0, 99999, e.sMin), (0x42, 0, 99999, e.sMax), (0x44, 50, 2000, e.c),
   (0x45, 0, 5000, e.f0), (0x46, 500, 60000, e.hTgt), (0x47, 0, 4095, e.kg), (0x48, 0, 4095, e.kf),
   (0x49, 0, 256, e.share), (0x4A, 1, 500, e.dStep), (0x4B, 0, 5000, e.iMax), (0x4C, 0, 2000, e.trimMax),
   (0x4D, 0, 255, e.nLock), (0x4E, 0, 65535, e.fOn), (0x4F, 0, 65535, e.fOff), (0x50, 0, 65535, e.fMax),
   (0x51, 1, 30000, e.dSpan), (0x52, 0, 128, e.win), (0x53, 4096, 4915, e.slip), (0x54, 1, 5000, e.devLim),
   (0x55, 1, 255, e.nDev)]

/-- R3 check 4, 11.4: the ordering checks of a stand entry, each with the field code it reports. -/
def entryOrders (e : StandEntry) : List (Nat × Bool) :=
  [(0x42, decide (e.sMin < e.sMax)), (0x43, decide (e.sMin ≤ e.sOpen ∧ e.sOpen ≤ e.sMax)),
   (0x4E, decide (e.fOff < e.fOn)), (0x50, decide (e.fOn < e.fMax))]

/-- R3 check 4: the field code of the first check of an entry that fails. -/
def entryFailure (e : StandEntry) : Option Nat :=
  match firstOutside (entryRanges e) with
  | some code => some code
  | none => firstFailing (entryOrders e)

/-- R3 check 4: the first in-service stand whose entry fails, with the field code. -/
def firstEntryFailure (entries : Table 7 (Option StandEntry)) : List Stand → Option (Nat × Stand)
  | [] => none
  | k :: ks =>
    match (entries.get k).bind entryFailure with
    | some code => some (code, k)
    | none => firstEntryFailure entries ks

/-- R3 check 5: the sum of the shares. -/
def shareSum (entries : Table 7 (Option StandEntry)) : Nat :=
  (entries.list.map (fun e => (e.map (·.share)).getD 0)).sum

/-- 1.2: the schedule a copied record holds. -/
def readSchedule (copy : List Word) (serial : Nat) : Schedule :=
  { serial := serial, coilId := recWord copy 0, vSeg := recNat copy 3, vBar := recNat copy 4
    vTail := recNat copy 5, hFin := recNat copy 6, tol := recNat copy 7, km := recNat copy 8
    miMax := recNat copy 9, entries := placeEntries copy (maskStands (recWord copy 1)) }

/-- R3: the first check that fails, as field code and stand number; `activeCoil` is the coil id of the active
slot. -/
def scheduleFault (copy : List Word) (activeCoil : Option Word) : Option (Nat × Nat) :=
  let stands := maskStands (recWord copy 1)
  let entries := placeEntries copy stands
  match firstOutside (coilRanges copy) with
  | some code => some (code, 0)
  | none =>
    if recNat copy 2 ≠ stands.length then some (0x22, 0)
    else if activeCoil = some (recWord copy 0) then some (0x20, 0)
    else match firstEntryFailure entries allStands with
      | some (code, k) => some (code, standNumber k)
      | none => if shareSum entries ≤ 256 then none else some (0x49, 0)

/-- R4: the first role missing from the node table for an in-service stand. -/
def State.missingNode (s : State) (entries : Table 7 (Option StandEntry)) : Option (Stand × Role) :=
  (allStands.flatMap (fun k =>
    if (entries.get k).isSome then [(k, Role.gap), (k, Role.force), (k, Role.speed)] else [])).find?
    (fun p => (s.nodeFor p.2 (some p.1)).isNone)

end Sys2Proof.Machine
end

