-- ==== Sys2Proof/Machine/Flags.lean ====
section
/-! DEFINITION. NEWS, NEWS_EN and the interrupt request (10 R187, R188). -/

namespace Sys2Proof.Machine

/-- R187: the word of NEWS or NEWS_EN. -/
def News.word (n : News) : Word :=
  BitVec.ofNat 32 (n.order.toNat + 2 * n.page.toNat + 4 * n.trip.toNat + 8 * n.node.toNat +
    16 * n.counter.toNat + 32 * n.coil.toNat + 64 * n.capture.toNat)

/-- R185: the seven bits a word written to NEWS_EN sets; the others are ignored. -/
def News.ofWord (w : Word) : News :=
  ⟨w.getLsbD 0, w.getLsbD 1, w.getLsbD 2, w.getLsbD 3, w.getLsbD 4, w.getLsbD 5, w.getLsbD 6⟩

/-- R188: two registers have a bit set in common. -/
def News.meets (n en : News) : Bool :=
  (n.order && en.order) || (n.page && en.page) || (n.trip && en.trip) || (n.node && en.node) ||
    (n.counter && en.counter) || (n.coil && en.coil) || (n.capture && en.capture)

/-- R188: the interrupt request follows NEWS and NEWS_EN; a pass from inactive to active is signalled. -/
def State.followIrq (s : State) : State :=
  { s with
    irq := s.news.meets s.newsEn
    irqSignals := if s.news.meets s.newsEn && !s.irq then s.irqSignals + 1 else s.irqSignals }

/-- R187: NEWS takes a value. -/
def State.withNews (s : State) (n : News) : State := State.followIrq { s with news := n }

/-- R179: NEWS.ORDER is set. -/
def State.noteOrder (s : State) : State := s.withNews { s.news with order := true }

/-- R163: NEWS.PAGE is set. -/
def State.notePage (s : State) : State := s.withNews { s.news with page := true }

/-- R131: NEWS.TRIP mirrors the latch. -/
def State.mirrorTrip (s : State) (latch : Bool) : State := s.withNews { s.news with trip := latch }

/-- R51: NEWS.NODE is set. -/
def State.noteNode (s : State) : State := s.withNews { s.news with node := true }

/-- R152: NEWS.COUNTER is set. -/
def State.noteCounter (s : State) : State := s.withNews { s.news with counter := true }

/-- R11: NEWS.COIL is set. -/
def State.noteCoil (s : State) : State := s.withNews { s.news with coil := true }

/-- R37: NEWS.CAPTURE is set. -/
def State.noteCapture (s : State) : State := s.withNews { s.news with capture := true }

/-- R187: what a read that covers bytes `first` to `first + count − 1` of a register returns; bytes outside are 0. -/
def coveredBytes (w : Word) (first count : Nat) : Word :=
  let byte (i : Nat) : Nat :=
    if first ≤ i ∧ i < first + count then (w.extractLsb' (8 * i) 8).toNat else 0
  packBytes (byte 0) (byte 1) (byte 2) (byte 3)

/-- R187: NEWS after a read that returned `seen`: each bit returned as 1 is cleared but TRIP. -/
def News.afterRead (n : News) (seen : Word) : News :=
  { order := n.order && !seen.getLsbD 0
    page := n.page && !seen.getLsbD 1
    trip := n.trip
    node := n.node && !seen.getLsbD 3
    counter := n.counter && !seen.getLsbD 4
    coil := n.coil && !seen.getLsbD 5
    capture := n.capture && !seen.getLsbD 6 }

end Sys2Proof.Machine
end

