-- ==== Sys2Proof/Machine/Trip.lean ====
section
/-! DEFINITION. The Trip Unit (chapter 7): detections, the latch, the subsequent list, the present level causes,
the trip record. -/

namespace Sys2Proof.Machine

/-- R116: two detections are the same cause. -/
def Cause.same : Cause → Cause → Bool
  | .nodeLost a _, .nodeLost b _ => a == b
  | a, b => a == b

/-- R122, R129: the stand a cause takes its figures from. -/
def Cause.stand? : Cause → Option Stand
  | .headLost k => some k
  | .unloadOrder k => some k
  | .loadUnexpected k => some k
  | .nodeLost _ k => some k
  | .gapDeviation k => some k
  | .forceLimit k => some k
  | .counter _ => none
  | .halt => none
  | .powerOn => none
  | .partReset => none
  | .external => none
  | .commanded => none
  | .linkSilent => none

/-- R129: the stand figures of a stand, as LNK, STU and GAP hold them now. -/
def State.figuresOf (s : State) (k : Stand) : StandFigures :=
  let g := s.reading .gap (some k)
  let f := s.reading .force (some k)
  ⟨g.1, g.2, f.1, f.2, (s.gapStand k).rPrev, (s.stand k).bite⟩

/-- R132: a detection taken while the latch is set. -/
def Trp.listed (t : Trp) (c : Cause) (time : Word) : Trp :=
  let known := (t.firstOut.map (fun f => f.cause.same c)).getD false || t.list.any (fun e => e.1.same c)
  if known then t
  else if t.list.length < Config.listSize then { t with list := t.list ++ [(c, time)] }
  else { t with unlisted := min (t.unlisted + 1) 65535 }

/-- R135: TRP takes a new content; when it differs from the old one the trip record is written again, with m
raised by 1. -/
def State.setTrp (s : State) (t : Trp) : State :=
  if t = s.trp then s
  else { s with
    trp := t
    tripNumber := s.tripNumber + 1
    cram := s.cram.writeWords 0x00400 (tripWords (s.tripNumber + 1) t) }

/-- R129, R116: the first-out record of a detection. The current link cycle is the one running, also for a detection in a
computation whose own cycle has ended (R28); R116 does not say which (DESIGN CHOICE, log entry 23). -/
def State.firstOutOf (s : State) (c : Cause) (time : Word) : FirstOut :=
  ⟨c, time, s.lnk.cycleNumber, s.lnk.runState, c.stand?.map s.figuresOf⟩

/-- R129, R124: TRP as a latching leaves it: latch and first-out set, the checks disarmed, the feed records none. -/
def Trp.latched (t : Trp) (f : FirstOut) : Trp :=
  { t with latch := true, firstOut := some f, armed := false, feed := Table.fill 7 none }

/-- R44: a latching moves RUN to READY. -/
def RunState.afterTrip : RunState → RunState
  | .run => .ready
  | .ready => .ready
  | .halted => .halted

/-- R130: what the other blocks do at the moment of a latching: TRIP_OUT and NEWS.TRIP (R131), the run state (R44),
the requested modes (R20), the head windows (R81); the flush of R76 is owed from now on. -/
def State.latchEffects (s : State) : State :=
  let s := s.mirrorTrip true
  { s with
    tripOut := false
    lnk := { s.lnk with runState := s.lnk.runState.afterTrip }
    stu := { s.stu with stands := s.stu.stands.map (fun r => { r with requested := .position }) }
    trk := { s.trk with windows := Table.fill 7 none, tripFlush := true } }

/-- R116, R129, R132: a detection with its time, TRP standing as `t` (its present level causes brought up to date). -/
def State.detectFrom (s : State) (t : Trp) (c : Cause) (time : Word) : State :=
  if s.trp.latch then s.setTrp (t.listed c time)
  else State.latchEffects (s.setTrp (t.latched (s.firstOutOf c time)))

/-- R116: a detection of an event cause. -/
def State.detect (s : State) (c : Cause) (time : Word) : State := s.detectFrom s.trp c time

/-- R117: EXTERNAL joins or leaves the present level causes. -/
def State.setExternal (s : State) (b : Bool) : State :=
  let t := { s.trp with present := { s.trp.present with external := b } }
  if b && !s.trp.present.external then s.detectFrom t .external s.time else s.setTrp t

/-- R117, R119: COMMANDED joins or leaves the present level causes. -/
def State.setCommanded (s : State) (b : Bool) : State :=
  let t := { s.trp with present := { s.trp.present with commanded := b } }
  if b && !s.trp.present.commanded then s.detectFrom t .commanded s.time else s.setTrp t

/-- R117, R120: LINK_SILENT joins or leaves the present level causes. -/
def State.setLinkSilent (s : State) (b : Bool) : State :=
  let t := { s.trp with present := { s.trp.present with linkSilent := b } }
  if b && !s.trp.present.linkSilent then s.detectFrom t .linkSilent s.time else s.setTrp t

/-- R117, R121: FORCE_LIMIT of stand k joins or leaves the present level causes. -/
def State.setForceLimit (s : State) (k : Stand) (b : Bool) : State :=
  let t := { s.trp with present :=
    { s.trp.present with forceLimit := s.trp.present.forceLimit.set k b } }
  if b && !s.trp.present.forceLimit.get k then s.detectFrom t (.forceLimit k) s.time else s.setTrp t

/-- R120, R121, R123: the level causes that leave as the link stops. -/
def State.linkCausesLeave (s : State) : State :=
  s.setTrp { s.trp with present :=
    { s.trp.present with linkSilent := false, forceLimit := Table.fill 7 false } }

/-- R136: the present level cause a refused TRIP_RESET names, the first in the rule's order. -/
def Present.firstCause (p : Present) : Option Cause :=
  if p.external then some .external
  else if p.commanded then some .commanded
  else if p.linkSilent then some .linkSilent
  else (allStands.find? p.forceLimit.get).map Cause.forceLimit

/-- R137: TRIP_RESET clears the latch, the first-out and the list. -/
def Trp.cleared (t : Trp) : Trp :=
  { t with latch := false, firstOut := none, list := [], unlisted := 0 }

/-- R137: the effects of an accepted TRIP_RESET. -/
def State.tripCleared (s : State) : State :=
  let s := s.setTrp s.trp.cleared
  let s := s.mirrorTrip false
  { s with
    tripOut := true
    gap := { s.gap with stands := s.gap.stands.map (fun g => { g with integrator := 0 }) } }

/-! ## Sequence checks (7.3) -/

/-- R124: an entry head-on arms the checks while the latch is clear. -/
def State.armChecks (s : State) : State :=
  if s.trp.latch then s else s.setTrp { s.trp with armed := true }

/-- R125 to R127: the head-on of a stand that is in service and not the entry stand of its schedule `c`, with the
head windows `open?` as they stood before the bite changes of this compute start. -/
def State.seqHeadOn (s : State) (c : Schedule) (open? : Table 7 (Option Window)) (j : Stand) : State :=
  if !s.trp.armed then s
  else
    let expected := allStands.any (fun k => (open?.get k).any (fun w => w.target == j))
    let s := if expected then s else s.detect (.loadUnexpected j) s.time
    if !s.trp.armed then s
    else
      match c.prevOf j with
      | none => s
      | some k =>
        if (s.stand k).bite == .loaded then s.setTrp { s.trp with feed := s.trp.feed.set j (some k) }
        else s

/-- R125, R126: the tail-off of stand j. -/
def State.seqTailOff (s : State) (j : Stand) : State :=
  let s :=
    if s.trp.armed && (s.trp.feed.get j).isSome then s.detect (.unloadOrder j) s.time else s
  let feed := s.trp.feed.set j none
  s.setTrp { s.trp with feed := feed.map (fun f => if f = some j then none else f) }

end Sys2Proof.Machine
end

