-- ==== Sys2Proof/Machine/Events.lean ====
section
/-! DEFINITION. The Event Counter Unit (chapter 8): filtering, counting, overflow, per-coil clearing. -/

namespace Sys2Proof.Machine

/-- The counter numbers in increasing order. -/
def allCounters : List (Fin 8) := [0, 1, 2, 3, 4, 5, 6, 7]

/-- R147 to R149: the event passes the counter's filters. -/
def Counter.passes (c : Counter) (e : Event) : Bool :=
  c.group == e.group && c.group != .off && c.subevents.getLsbD e.sub.bit &&
  (match e.zone with
   | some z => c.zones.getLsbD z.bit
   | none => c.zones != 0) &&
  (match e.group, e.stand with
   | .segment, _ => true
   | _, none => true
   | _, some k => c.stands.getLsbD k.val)

/-- R150, R151: the counter with one event counted. -/
def Counter.counted (c : Counter) : Counter :=
  { c with value := c.value + 1, flag := c.flag || c.value == 0xFFFFFFFF }

/-- R150 to R153: counter n takes the event. -/
def State.countOne (e : Event) (time : Word) (s : State) (n : Fin 8) : State :=
  let c := s.evc.counters.get n
  if c.passes e then
    let s := { s with evc := { s.evc with counters := s.evc.counters.set n c.counted } }
    if c.value = 0xFFFFFFFF then
      match c.action with
      | .none => s
      | .notice => s.noteCounter
      | .trip => s.detect (.counter n) time
    else s
  else s

/-- R146: EVC takes an event; `time` is the time a COUNTER detection it causes carries (R153). -/
def State.raise (s : State) (e : Event) (time : Word) : State :=
  allCounters.foldl (State.countOne e time) s

/-- R154: the counter at the first segment of a new coil id. -/
def Counter.coilCleared (c : Counter) : Counter :=
  if c.perCoil && c.group != .off then { c with value := 0 } else c

/-- R67, R154: TRK creates a segment of a coil id. -/
def State.coilCreated (s : State) (coil : Word) : State :=
  if s.evc.lastCoil = some coil then s
  else { s with evc := { counters := s.evc.counters.map Counter.coilCleared, lastCoil := some coil } }

/-- A TRACK event. -/
def State.raiseTrack (s : State) (sub : Subevent) (zone : Option Zone) (stand : Option Stand)
    (time : Word) : State :=
  s.raise ⟨.track, sub, zone, stand⟩ time

end Sys2Proof.Machine
end

