-- ==== Sys2Proof/Machine/Reports.lean ====
section
/-! DEFINITION. The Report Writer (chapter 9): writing a report, closing a page, the search for a FREE page. -/

namespace Sys2Proof.Machine

/-- 9.1: the current page is FILLING; at most one page is, and it is that one. -/
def State.filling (s : State) : Bool := s.pageState s.rpt.current == pageFilling

/-- 11.6: the report count of a page. -/
def State.pageCount (s : State) (p : Fin 16) : Word := s.word (pageBase p + 0x08)

/-- R164: the pages in search order: the current index plus 1 first, the current index last. -/
def searchOrder (current : Fin 16) : List (Fin 16) :=
  ([1, 2, 3, 4, 5, 6, 7, 8, 9, 10, 11, 12, 13, 14, 15, 0] : List (Fin 16)).map (current + ·)

/-- R164: the page a search finds. -/
def State.searchPage (s : State) : Option (Fin 16) :=
  (searchOrder s.rpt.current).find? (fun p => s.pageState p == pageFree)

/-- R164: page p becomes FILLING. -/
def State.openPage (s : State) (p : Fin 16) : State :=
  let seq := s.rpt.lastSeq + 1
  { s with
    cram := s.cram.writeWords (pageBase p) [pageFilling, seq, 0, s.rpt.pendingLost, noIndex]
    rpt := { s.rpt with current := p, lastSeq := seq, pendingLost := 0 } }

/-- R164: a search; the page found becomes FILLING. -/
def State.search (s : State) : State :=
  match s.searchPage with
  | none => s
  | some p => s.openPage p

/-- R163: the FILLING page is closed: FULL, NEWS.PAGE, a search. -/
def State.closeCurrent (s : State) : State :=
  State.search (State.notePage (s.putWord (pageBase s.rpt.current) pageFull))

/-- R161, R162: one report is written into the FILLING page. -/
def State.writeReport (s : State) (g : Segment) (a : Assessment) (time : Word) : State :=
  let base := pageBase s.rpt.current
  let count := (s.pageCount s.rpt.current).toNat
  let s := s.putWords (base + 0x40 * (count + 1)) (reportWords g a time)
  let s := if count = 0 then s.putWord (base + 0x10) (natWord g.id.toNat) else s
  let s := s.putWord (base + 0x08) (natWord (count + 1))
  { s with rpt := { s.rpt with reported := s.rpt.reported + 1 } }

/-- R165: a report is lost. -/
def State.loseReport (s : State) : State :=
  { s with rpt :=
    { s.rpt with pendingLost := satSucc s.rpt.pendingLost, lost := s.rpt.lost + 1 } }

/-- R160: a removed segment reaches RPT with its assessment, its end-of-coil mark and its removal time. -/
def State.report (s : State) (g : Segment) (a : Assessment) (endOfCoil : Bool) (time : Word) : State :=
  let s := if s.filling then s else s.search
  if s.filling then
    let s := s.writeReport g a time
    if (s.pageCount s.rpt.current).toNat = Config.pagePlaces || endOfCoil then s.closeCurrent else s
  else s.loseReport

end Sys2Proof.Machine
end

