-- ==== Sys2Proof/Machine/Stands.lean ====
section
/-! DEFINITION. The Stand Unit: free stands, the switch test, the coil change (1.4), bite detection (1.6), modes and
lock-on (1.7). -/

namespace Sys2Proof.Machine

/-! ## The coil figures list (R105) -/

/-- R105: the figures of a schedule. -/
def Schedule.figures (c : Schedule) : Figures := ⟨c.serial, c.coilId, c.hFin, c.tol, c.km⟩

/-- R105: an entry is appended. The rule holds that a fourth entry is never needed, but behind a silent gauge the segments
of several discarded coils can wait, whose entries its table keeps: DESIGN CHOICE, the list then grows past three (log
entry 24). -/
def State.addFigures (s : State) (c : Schedule) : State :=
  { s with gap := { s.gap with figures := s.gap.figures ++ [c.figures] } }

/-- R105: the entry of a schedule is removed. -/
def State.dropFigures (s : State) (serial : Nat) : State :=
  { s with gap := { s.gap with figures := s.gap.figures.filter (fun f => f.serial != serial) } }

/-- R105: a segment in the table, or an open creation record, belongs to the schedule. -/
def State.carried (s : State) (serial : Nat) : Bool :=
  s.trk.segs.any (fun g => g.serial == serial) || s.trk.creation.any (fun r => r.serial == serial)

/-- R105: the schedule is in a slot. -/
def State.inSlot (s : State) (serial : Nat) : Bool :=
  s.stu.active.any (fun h => h.sched.serial == serial) ||
    s.stu.pending.any (fun h => h.sched.serial == serial)

/-! ## Switching (R8 to R11) -/

/-- R8: a segment of the coil of schedule `c` lies upstream of stand k, an open creation record of that coil
counted. -/
def State.coilUpstream (s : State) (c : Schedule) (k : Stand) : Bool :=
  s.trk.segs.any (fun g => g.coilId == c.coilId &&
    (match c.firstFrom k with
     | none => true
     | some p => !g.list.any (fun e => e.1 == p))) ||
  s.trk.creation.any (fun r => r.coilId == c.coilId)

/-- R8: stand k is free. -/
def State.free (s : State) (k : Stand) : Bool :=
  (s.stand k).bite == .empty &&
    (match s.schedOf k with
     | none => true
     | some c => !s.coilUpstream c k)

/-- R10: what a switch is charged to: the computation whose work is being done, else the next one to start, else
nothing in HALTED. -/
def State.chargeSwitch (s : State) (k : Stand) : State :=
  let later :=
    if s.lnk.runState = .halted then s
    else { s with stu := { s.stu with switchCharge := s.stu.switchCharge + 1 } }
  match s.comp with
  | none => later
  | some c =>
    if c.working then
      { s with comp := some { c with switches := c.switches + 1, switched := c.switched.set k true } }
    else later

/-- R11, R105, R112: the coil change completes, `p` being the pending schedule. -/
def State.completeChange (s : State) (p : HeldSchedule) : State :=
  let old := s.stu.active
  let s := { s with
    stu := { s.stu with
      active := some p
      pending := none
      stands := s.stu.stands.map (fun r => { r with use := .active }) }
    gap := { s.gap with mi := clampAbs p.sched.miMax s.gap.mi } }
  let s :=
    match old with
    | none => s
    | some o => if s.carried o.sched.serial then s else s.dropFigures o.sched.serial
  s.noteCoil

/-- R10: stand k switches to the pending schedule `p`. -/
def State.switchStand (s : State) (p : HeldSchedule) (k : Stand) : State :=
  let s := s.modifyStand k (fun r =>
    { r with use := .pending, trim := 0, lockCount := 0, lockSum := 0, debounce := 0 })
  let s := s.modifyGap k (fun g => { g with integrator := 0, hLock := none })
  let s := s.chargeSwitch k
  let s := if p.sched.lastStand = some k then { s with gap := { s.gap with mi := 0 } } else s
  if k = 6 then s.completeChange p else s

/-- R9: the switch test over the stands listed, which stand in increasing order. -/
def switchThrough : List Stand → State → State
  | [], s => s
  | k :: ks, s =>
    match s.stu.pending with
    | none => s
    | some p =>
      if (s.stand k).use = .pending then switchThrough ks s
      else if s.free k then switchThrough ks (s.switchStand p k)
      else s

/-- R9: the switch test. -/
def State.switchTest (s : State) : State := switchThrough allStands s

/-! ## Bite detection (R13) -/

/-- R13: one fresh force value at a stand: the new bite state, the new debounce count, and the change. -/
def biteStep (fOn fOff : Nat) (bite : Bite) (debounce force : Nat) : Bite × Nat × BiteChange :=
  match bite with
  | .empty =>
    if fOn ≤ force then
      if debounce = 0 then (.empty, 1, .none) else (.loaded, 0, .headOn)
    else (.empty, 0, .none)
  | .loaded =>
    if force < fOff then
      if debounce = 0 then (.loaded, 1, .none) else (.empty, 0, .tailOff)
    else (.loaded, 0, .none)

/-- R13: the thresholds of a stand. -/
def thresholds : Option StandEntry → Nat × Nat
  | some e => (e.fOn, e.fOff)
  | none => (Config.defaultFOn, Config.defaultFOff)

/-- R13: the bite update of stand k at a compute start; a held force changes nothing. -/
def State.biteOf (s : State) (k : Stand) : Bite × Nat × BiteChange :=
  let r := s.stand k
  match s.reading .force (some k) with
  | (some f, .fresh) =>
    let t := thresholds (s.entryOf k)
    biteStep t.1 t.2 r.bite r.debounce f
  | _ => (r.bite, r.debounce, .none)

/-- R13, R19: the stand record after its bite update; a tail-off clears lock-on. -/
def StandRec.bitten (r : StandRec) (b : Bite × Nat × BiteChange) : StandRec :=
  let r := { r with bite := b.1, debounce := b.2.1 }
  if b.2.2 = .tailOff then { r with lockCount := 0, lockSum := 0 } else r

/-- R19, R95: GAP's record after the bite update; a tail-off clears the integrator and h_lock. -/
def GapRec.bitten (g : GapRec) (b : Bite × Nat × BiteChange) : GapRec :=
  if b.2.2 = .tailOff then { g with integrator := 0, hLock := none } else g

/-! ## Modes and lock-on (R17, R18) -/

/-- R17: the effective mode of a stand; `nLock` is absent for a stand that is not in service. -/
def effectiveMode (now : RunState) (nLock : Option Nat) (requested : Requested) (bite : Bite)
    (lockCount : Nat) (fresh : Bool) : Effective :=
  match nLock with
  | none => .position
  | some n =>
    if now ≠ .run then .position
    else if requested = .position then .position
    else if bite = .empty then .gaugeWait
    else if 0 < n ∧ lockCount < n then .locking
    else if !fresh then .gaugeHeld
    else .gauge

/-- R18: one cycle of lock-on at stand k: the new count, the new sum, and h_lock when it is formed now. -/
def lockStep (nLock : Nat) (bite : Bite) (fresh : Bool) (hLock : Option Int) (count sum : Nat)
    (hgm : Option Nat) : Nat × Nat × Option Int :=
  match hgm with
  | none => (count, sum, hLock)
  | some h =>
    if 0 < nLock ∧ bite = .loaded ∧ fresh ∧ hLock = none then
      let count := count + 1
      let sum := sum + h
      if nLock ≤ count then (count, sum, (meanOf sum nLock).map Int.ofNat) else (count, sum, none)
    else (count, sum, hLock)

end Sys2Proof.Machine
end

