-- ==== Sys2Proof/Machine/Removal.lean ====
section
/-! DEFINITION. The removal of a segment and all it brings about (R68, R108): quality (R106, R107), the monitor
(R110, R111), the last assessment (R114), the SEGMENT event (R109), the report, the coil figures (R105), the
switch test (R9), IDLE (R77); and the flush (R76). -/

namespace Sys2Proof.Machine

/-- R59, R106: the gauge node counts as EXCLUDED for a removal made now: as the compute start of the computation in
progress left it, else as it is. -/
def State.gaugeOut (s : State) : Bool :=
  match s.comp with
  | some c => c.gaugeExcluded
  | none => s.excluded .exitGauge none

/-- R105: the figures a segment is judged by, the oldest entry of its coil id. -/
def State.figuresFor (s : State) (coil : Word) : Option Figures :=
  s.gap.figures.find? (fun f => f.coilId == coil)

/-- R107: the quality class. -/
def qualityOf (em : Int) (tol : Nat) : Quality :=
  if em.natAbs ≤ tol then .inBand else if em > 0 then .thick else .thin

/-- R106, R107: the quality assessment of a segment, `out` telling whether the gauge node is EXCLUDED. -/
def assess (out : Bool) (figures : Option Figures) (g : Segment) : Assessment :=
  match figures, (if out then none else meanOf g.gaugeSum g.gaugeCount) with
  | some f, some h => ⟨some h, some (h - f.hFin), qualityOf (h - f.hFin) f.tol⟩
  | _, _ => ⟨none, none, .noReading⟩

/-- R110: the first condition of the monitor update that fails, none when all hold. -/
def State.monitorReason (s : State) (g : Segment) (a : Assessment) (kind : Removal) : MonitorReason :=
  if kind = .flush then .flushed
  else if g.zone ≠ .body then .notBody
  else if s.gaugeOut then .gaugeExcluded
  else if a.hx.isNone then .noHx
  else if g.degraded || g.trip then .flagged
  else if s.trp.latch then .tripped
  else if s.stu.active.isNone then .noActive
  else .none

/-- R111: MI' before the clamp. -/
def monitorStep (mi em : Int) (km : Nat) : Int := mi - roundDiv (em * km) 1024

/-- R110, R111, R114: the monitor test and update of a removal, and the last assessment record. -/
def State.monitor (s : State) (g : Segment) (a : Assessment) (kind : Removal) : State :=
  let reason := s.monitorReason g a kind
  let record (mi' : Int) (applied clamped : Bool) : State :=
    { s with gap := { s.gap with
      mi := mi'
      last := some ⟨g.id, g.coilId, kind, g.zone, a.quality, a.hx, a.em, applied, reason, clamped,
        mi' - s.gap.mi, mi'⟩ } }
  match reason, a.em, s.figuresFor g.coilId, s.stu.active with
  | .none, some em, some f, some h =>
    let raw := monitorStep s.gap.mi em f.km
    let mi' := clampAbs h.sched.miMax raw
    record mi' true (decide (mi' ≠ raw))
  | _, _, _, _ => record s.gap.mi false false

/-- R109: the subevent of a removal. -/
def segmentSub (g : Segment) (q : Quality) : Subevent :=
  if g.trip then .tripFlushed
  else if g.degraded then .degradedSeg
  else match q with
    | .noReading => .noReading
    | .inBand => .inBand
    | .thick => .thick
    | .thin => .thin

/-- R77: a removal that leaves the table empty while no creation record is open moves NORMAL or DEGRADED to IDLE. -/
def State.idleIfEmpty (s : State) : State :=
  if s.trk.segs.isEmpty && s.trk.creation.isNone &&
      (s.trk.state == .normal || s.trk.state == .degraded) then
    { s with trk := { s.trk with state := .idle } }
  else s

/-- R68: the segment as it is removed, with its NO_GAUGE and TRIP flags. -/
def Segment.stamped (g : Segment) (trip : Bool) : Segment :=
  { g with noGauge := g.gaugeCount == 0, trip := trip || g.trip }

/-- R105: the removal of the last segment of a schedule that is in neither slot drops its figures. -/
def State.dropIfLast (s : State) (serial : Nat) : State :=
  if s.carried serial || s.inSlot serial then s else s.dropFigures serial

/-- R68, R108, R9, R77: the oldest segment is removed. `trip` gives it the TRIP flag; `time` is its removal time. -/
def State.removeOldest (s : State) (kind : Removal) (trip : Bool) (time : Word) : State :=
  match s.trk.segs with
  | [] => s
  | g0 :: rest =>
    let g := g0.stamped trip
    let endOfCoil := !(rest.any (fun x => x.coilId == g.coilId) ||
      s.trk.creation.any (fun r => r.coilId == g.coilId))
    let s := { s with trk := { s.trk with segs := rest } }
    let a := assess s.gaugeOut (s.figuresFor g.coilId) g
    let s := s.monitor g a kind
    let s := s.raise ⟨.segment, segmentSub g a.quality, some g.zone, none⟩ time
    let s := s.report g a endOfCoil time
    let s := s.dropIfLast g.serial
    s.switchTest.idleIfEmpty

/-- The oldest segment removed `n` times. -/
def State.removeMany (kind : Removal) (trip : Bool) (time : Word) : Nat → State → State
  | 0, s => s
  | n + 1, s => State.removeMany kind trip time n (s.removeOldest kind trip time)

/-- R76: the creation record is discarded and every Q set to 0. -/
def State.clearTracking (s : State) : State :=
  { s with trk := { s.trk with creation := none, q := Table.fill 7 0, qGauge := 0 } }

/-- R76, R9: tracking enters LOST with its flush; nothing when it is LOST already. -/
def State.enterLost (s : State) (trip : Bool) (time : Word) : State :=
  if s.trk.state = .lost then s
  else
    let n := s.trk.segs.length
    let s := { s with trk := { s.trk with state := .lost } }
    let s := (State.removeMany .flush trip time n s).clearTracking
    if n = 0 then s else s.switchTest

/-- R76: the flush a trip owes is made; a trip latched by an event of that very flush finds tracking LOST and owes none.
Tracking is judged now, not at the latching: a bar that an entry head-on has started in the computation of a trip latched
while LOST is flushed too, R76 saying both that such a cause does not flush again and that a trip flushes at compute end
(DESIGN CHOICE, log entry 14). -/
def State.tripFlushNow (s : State) (time : Word) : State :=
  if s.trk.tripFlush then
    let s := s.enterLost true time
    { s with trk := { s.trk with tripFlush := false } }
  else s

/-- R76, R130: outside a computation a trip flushes at once, with the TIME of this moment (R68). -/
def State.settleTrip (s : State) : State :=
  match s.comp with
  | some _ => s
  | none => s.tripFlushNow s.time

end Sys2Proof.Machine
end

