-- ==== Sys2Proof/Machine/Orders.lean ====
section
/-! DEFINITION. The Order Unit (10.2): taking the head of the queue, completion, the refusals at the taking. -/

namespace Sys2Proof.Machine

/-- R178: ORD takes the order at the head of the queue. -/
def State.takeHead (s : State) : State :=
  match s.ord.queue with
  | [] => s
  | slot :: rest =>
    let base := slotBase slot
    let args := s.cram.readWords (base + 0x08) 14
    let kind := parseKind (s.word (base + 0x04)) args
    let s := s.putWord base slotTaken
    let s := s.putWords (base + 0x40) (List.replicate 16 0)
    { s with ord := { queue := rest, taken := some ⟨slot, kind, args, .handed⟩ } }

/-- R179, R181: the outcome and the state word of the TAKEN order are written and ORD becomes idle; NEWS.ORDER is
set. -/
def State.finish (s : State) (o : OrderOutcome) (results : List Word) : State :=
  match s.ord.taken with
  | none => s
  | some t =>
    let base := slotBase t.slot
    let s := s.putWords (base + 0x40) (o.code :: padWords 15 results)
    let s := s.putWord base (if o = .ok then slotDone else slotRefused)
    let s := s.noteOrder
    { s with ord := { s.ord with taken := none } }

/-- R179, R183: in HALTED a completion is followed by a status write. -/
def State.haltedStatus (s : State) : State :=
  if s.lnk.runState = .halted then s.statusWrite else s

/-- R178, R179: after a completion ORD takes the next order; in HALTED the status area is then written; an order
refused at its taking completes at once, and so on. The number bounds how many can (32 slots). -/
def settleOrders : Nat → State → State
  | 0, s => s
  | n + 1, s =>
    let s := s.takeHead.haltedStatus
    match s.ord.taken with
    | none => s
    | some t =>
      match t.kind.rejected with
      | none => s
      | some r => settleOrders n (s.finish r.1 r.2)

/-- R179: the TAKEN order completes. -/
def State.complete (s : State) (o : OrderOutcome) (results : List Word) : State :=
  settleOrders 33 (s.finish o results)

/-- R177, R178: an accepted POSTED write: the slot joins the queue, and ORD takes the head when it is idle. -/
def State.post (s : State) (slot : Fin 32) : State :=
  let s := { s with ord := { s.ord with queue := s.ord.queue ++ [slot] } }
  match s.ord.taken with
  | some _ => s
  | none =>
    let s := s.takeHead
    match s.ord.taken with
    | none => s
    | some t =>
      match t.kind.rejected with
      | none => s
      | some r => s.complete r.1 r.2

/-- The TAKEN order, when it has just been handed to its owner and is of this kind. -/
def State.handedOrder (s : State) (kind : OrderKind) : Option Taken :=
  match s.ord.taken with
  | some t => if t.phase = .handed ∧ t.kind = kind then some t else none
  | none => none

/-- The TAKEN order goes into another phase (R2, R180). -/
def State.setPhase (s : State) (p : Phase) : State :=
  { s with ord := { s.ord with taken := s.ord.taken.map (fun t => { t with phase := p }) } }

end Sys2Proof.Machine
end

