-- ==== Sys2Proof/Machine/Link.lean ====
section
/-! DEFINITION. The Link Controller (chapters 2 and 3): frames and their CRC, verdicts, the link start and stop, the
cycle start, run states, and LNK's work at a compute start. -/

namespace Sys2Proof.Machine

/-! ## Frames (R191, 11.7) -/

/-- R191: one bit of the CRC-16, generator 0x1021. -/
def crcShift (r : Half) : Half := if r.getLsbD 15 then (r <<< 1) ^^^ 0x1021 else r <<< 1

/-- R191: one octet of the CRC-16. -/
def crcOctet (r : Half) (b : Byte) : Half :=
  let r := r ^^^ ((b.setWidth 16) <<< 8)
  crcShift (crcShift (crcShift (crcShift (crcShift (crcShift (crcShift (crcShift r)))))))

/-- R191: the CRC-16 of octets, initial value 0xFFFF, without reflection. -/
def crc16 (bs : List Byte) : Half := bs.foldl crcOctet 0xFFFF

/-- R191: a frame, its CRC appended. -/
def withCrc (bs : List Byte) : List Byte := bs ++ halfBytes (crc16 bs)

/-- R191: the CRC at the end of a received frame agrees with the octets before it. -/
def crcOk (bs : List Byte) : Bool :=
  let n := bs.length - 2
  bs.drop n == halfBytes (crc16 (bs.take n))

/-- R23, 11.7: a SYNC frame. -/
def syncFrame (number : Half) (now : RunState) (trip : Bool) : List Byte :=
  withCrc ([0x51] ++ halfBytes number ++ [BitVec.ofNat 8 now.code, if trip then 1 else 0])

/-- LNK sends a frame. -/
def State.send (s : State) (frame : List Byte) : State := { s with linkOut := s.linkOut ++ [frame] }

/-- 11.7: the length of a REPLY of a role. -/
def Role.replyLength : Role → Nat
  | .gap => 11
  | .exitGauge => 11
  | .force => 9
  | .speed => 9

/-- 2.3, 11.7: the fields of a REPLY of a role. -/
def parseReply (role : Role) (bs : List Byte) : ReplyData :=
  let b (i : Nat) : Byte := bs.getD i 0
  let status := b 2
  let wide := role == .gap || role == .exitGauge
  { nodeReady := status.getLsbD 0, valueValid := status.getLsbD 1, localFault := status.getLsbD 2
    stripPresent := status.getLsbD 3
    value := if wide then (bytesWord (b 3) (b 4) (b 5) (b 6)).toNat else ((b 4) ++ (b 3)).toNat
    echo := if wide then (b 8) ++ (b 7) else (b 6) ++ (b 5) }

/-! ## Captures and bad verdicts (R37, R39) -/

/-- R37: a bad verdict charged to a table node is captured while the arm word reads ARMED. -/
def State.captureVerdict (s : State) (address : Byte) (v : Verdict) (number : Half) (offset : Nat) : State :=
  if s.armWord = armArmed then
    let s := s.putWords (armWordAt + 4)
      [natWord address.toNat, natWord v.code, natWord number.toNat, natWord offset]
    State.noteCapture (s.putWord armWordAt armHeld)
  else s

/-- R39: the subevent of a bad verdict; GOOD has none. -/
def Verdict.sub : Verdict → Option Subevent
  | .good => none
  | .crc => some .crc
  | .form => some .form
  | .duplicate => some .duplicate
  | .late => some .late
  | .unknown => some .unknown
  | .missing => some .missing

/-- R37, R39: what follows a verdict: a bad one charged to a node is captured, and every bad one raises a LINK
event, with the node's stand. -/
def State.afterVerdict (s : State) (node : Option Node) (v : Verdict) (number : Half) (offset : Nat) : State :=
  match v.sub with
  | none => s
  | some sub =>
    let s := match node with
      | none => s
      | some n => s.captureVerdict n.address v number offset
    s.raise ⟨.link, sub, none, node.bind (·.stand)⟩ s.time

/-! ## Verdicts (R26) -/

/-- 2.2: the node of the table with an address. -/
def State.nodeAt (s : State) (address : Byte) : Option Node :=
  s.lnk.nodes.find? (fun n => n.address == address)

/-- R26: an earlier arrival of the cycle from the address was given FORM, GOOD or DUPLICATE. -/
def Cycle.seen (c : Cycle) (address : Byte) : Bool :=
  c.charges.any (fun x => x.address == address &&
    (x.verdict == .form || x.verdict == .good || x.verdict == .duplicate))

/-- R26, R191: the verdict of a frame in a cycle and the table node it is charged to. The received address is the second octet
of every frame that has three or more: R191 says so of a frame judged CRC, and where a frame of three octets has a right
CRC, whose layout puts a CRC octet there, the model takes it too (DESIGN CHOICE, log entry 19). -/
def State.judge (s : State) (c : Cycle) (bs : List Byte) : Verdict × Option Node :=
  if bs.length < 3 then (.crc, none)
  else
    let address := bs.getD 1 0
    match crcOk bs, s.nodeAt address with
    | false, n => (.crc, n)
    | true, none => (.unknown, none)
    | true, some n =>
      if c.started then (.late, some n)
      else if c.seen address then (.duplicate, some n)
      else if bs.getD 0 0 != 0x52 || bs.length != n.role.replyLength then (.form, some n)
      else (.good, some n)

/-- R27: before compute start a charged arrival other than LATE counts for its node's cycle result. -/
def Cycle.charge (c : Cycle) (v : Verdict) (node : Option Node) (offset : Nat) (bs : List Byte) : Cycle :=
  match node with
  | none => c
  | some n =>
    if c.started then c
    else { c with charges := c.charges ++
      [⟨n.address, v, offset, if v = .good then some (parseReply n.role bs) else none⟩] }

/-- R35: an arrival enters the reply log, or sets the overflow flag. -/
def Cycle.logArrival (c : Cycle) (address : Byte) (v : Verdict) (offset : Nat) : Cycle :=
  if c.log.length < Config.logSize then { c with log := c.log ++ [⟨address, v, offset⟩] }
  else { c with overflow := true }

/-- R28: every awaited node has a GOOD charged. -/
def Cycle.complete (c : Cycle) : Bool :=
  c.awaited.all (fun a => c.charges.any (fun x => x.address == a && x.verdict == .good))

/-! ## Link start, cycle start, link stop -/

/-- R25, R41, R46: a node at a link start. -/
def Node.linkStarted (n : Node) : Node :=
  { address := n.address, role := n.role, stand := n.stand
    health := .active, errors := 0, clean := 0, value := none, strip := false, mark := .none, held := 0
    result := none, verdicts := [], lastGood := none, nodeReady := false, localFault := false, echo := none }

/-- R22, R23, R28, R35: a cycle begins: its number, its awaited nodes, an empty log, the SYNC frame. -/
def State.beginCycle (s : State) : State :=
  let number := s.lnk.cycleNumber + 1
  let awaited := (s.lnk.nodes.filter (fun n => n.health != .excluded)).map (·.address)
  let s := { s with lnk := { s.lnk with
    cycleNumber := number
    cycle := some ⟨number, s.clock, awaited, [], [], false, false, false, false, false⟩ } }
  s.send (syncFrame number s.lnk.runState s.trp.latch)

/-- R84: GAP's record of a stand at a link start. -/
def GapRec.linkStarted (g : GapRec) : GapRec :=
  { g with integrator := 0, committed := none, rPrev := none, devCount := 0 }

/-- R25, R41, R46, R84: a link start with a node table, timing and W; the first cycle start comes at once. -/
def State.linkStart (s : State) (nodes : List Node) (timing : Option Timing) (warn : Nat) : State :=
  let notify := s.lnk.nodes.any (fun n => n.health != .active)
  let s := { s with
    lnk := { runState := .ready, nodes := nodes.map Node.linkStarted, timing := timing, warn := warn
             cycleNumber := s.lnk.cycleNumber, cycle := none, waiting := [], published := []
             publishedOverflow := false, silence := 0 }
    gap := { s.gap with stands := s.gap.stands.map GapRec.linkStarted } }
  let s := if notify then s.noteNode else s
  s.beginCycle

/-- R22, R35: the cycle in progress ends; its log is published; when its compute start has not come, it waits for
it (R28). -/
def State.endCycle (s : State) : State :=
  match s.lnk.cycle with
  | none => s
  | some c => { s with lnk := { s.lnk with
      cycle := none
      waiting := if c.started then s.lnk.waiting else s.lnk.waiting ++ [c]
      published := c.log
      publishedOverflow := c.overflow } }

/-- R43, R55, R123: the link stops: HALT is handed to TRP, the run state becomes HALTED, the silence count is 0 and
the level causes of the link leave; a computation in progress will be discarded (R32, R97). -/
def State.linkStop (s : State) : State :=
  let s := s.detect .halt s.time
  let s := { s with
    lnk := { s.lnk with runState := .halted, cycle := none, waiting := [], silence := 0 }
    comp := s.comp.map (fun (c : Computation) => { c with late := true }) }
  s.linkCausesLeave.settleTrip

/-- R40 to R43: a RUN_STATE order is checked and applied: the state after it, and its outcome. In HALTED an accepted
READY is a link start. -/
def State.applyRunState (s : State) (t : Target) : State × OrderOutcome :=
  match t, s.lnk.runState with
  | .halt, .halted => (s, .nothingToDo)
  | .halt, .ready => (s.linkStop, .ok)
  | .halt, .run => (s, .wrongState)
  | .ready, .halted =>
    if s.lnk.nodes.isEmpty then (s, .wrongState)
    else (s.linkStart s.lnk.nodes s.lnk.timing s.lnk.warn, .ok)
  | .ready, .ready => (s, .nothingToDo)
  | .ready, .run => ({ s with lnk := { s.lnk with runState := .ready } }, .ok)
  | .run, .halted => (s, .wrongState)
  | .run, .ready =>
    if s.trp.latch then (s, .tripped)
    else if s.stu.active.isNone then (s, .wrongState)
    else ({ s with lnk := { s.lnk with runState := .run } }, .ok)
  | .run, .run => (s, .nothingToDo)

/-- R40: the RUN_STATE order that waits for this cycle start is applied and completes. -/
def State.deferredRunState (s : State) : State :=
  match s.ord.taken with
  | none => s
  | some t =>
    match t.kind with
    | .runState target =>
      let r := s.applyRunState target
      r.1.complete r.2 []
    | _ => s

/-- R22, R23: a cycle start: the cycle before ends, a waiting RUN_STATE order is applied, and unless that stopped
the link the new cycle begins. An order that ORD takes as that RUN_STATE completes (R178, R179), a TRIP_RESET or a NODE_REJOIN
among them, is acted on after the SYNC frame is sent and the awaited nodes are fixed, so that a node it rejoins is first
awaited one cycle later; R40, R52 and R22 give no order (DESIGN CHOICE, log entry 11). -/
def State.cycleStartEvent (s : State) : State :=
  let s := s.endCycle.deferredRunState
  if s.lnk.runState = .halted then s else s.beginCycle

/-! ## LNK's work at a compute start (R27, R30, R47 to R54) -/

/-- R27: the arrivals charged to a node in the window of a cycle. -/
def Cycle.chargesOf (c : Cycle) (n : Node) : List Charge :=
  c.charges.filter (fun x => x.address == n.address)

/-- R27: the cycle result is good when exactly one verdict is charged and it is GOOD; the data it brought. -/
def goodReply (cs : List Charge) : Option ReplyData :=
  match cs with
  | [x] => if x.verdict = .good then x.data else none
  | _ => none

/-- R29: the value of a good reply is valid. -/
def validReply (role : Role) (d : ReplyData) : Bool :=
  d.valueValid && !d.localFault &&
    (match role with
     | .gap => decide (d.value ≤ 99999)
     | .exitGauge => decide (d.value ≤ 99999)
     | .force => true
     | .speed => true)

/-- R48: the health state an error count gives. -/
def gradedHealth (warn errors : Nat) : Health :=
  if errors < warn then .active else if errors ≤ 127 then .warned else .degraded

/-- R47 to R49, R53: health, E and clean-cycle count after a cycle result. -/
def healthStep (warn : Nat) (health : Health) (errors clean : Nat) (good : Bool) : Health × Nat × Nat :=
  match health with
  | .excluded => (.excluded, errors, clean)
  | .rejoining =>
    if good then
      if clean + 1 = Config.cleanCycles then (.active, 0, 0) else (.rejoining, errors, clean + 1)
    else (.rejoining, errors, 0)
  | _ =>
    if good then (gradedHealth warn (errors - 1), errors - 1, clean)
    else if errors + 8 ≤ 255 then (gradedHealth warn (errors + 8), errors + 8, clean)
    else (.excluded, 255, clean)

/-- R29: the echo lag in the cycle `number`. At a compute start that comes after its own cycle has ended (R28), R29 does not
say which cycle is 'the current one': DESIGN CHOICE, the cycle whose compute start it is, not the one then running (log
entry 23). -/
def echoLag (number echo : Half) : Half := (number - 1) - echo

/-- R27, R29, R30, R36, R47: a node at the compute start of cycle `number`, with the arrivals charged to it; the echo lag is
taken in that cycle also when it has ended (DESIGN CHOICE, log entry 23). -/
def Node.atComputeStart (n : Node) (warn : Nat) (number : Half) (cs : List Charge) : Node :=
  let good := goodReply cs
  let fresh := good.any (validReply n.role) && n.health != .excluded && n.health != .rejoining
  let value := if fresh then good.map (·.value) else n.value
  let h := healthStep warn n.health n.errors n.clean good.isSome
  let echo : Option Half := match good with
    | some d => some d.echo
    | none => n.echo.map (·.1)
  { n with
    health := h.1
    errors := h.2.1
    clean := h.2.2
    value := value
    strip := if fresh && n.role == .exitGauge then good.any (·.stripPresent) else n.strip
    mark := if fresh then .fresh else if value.isNone then .none else .held
    held := if fresh then 0 else min (n.held + 1) 65535
    result := some good.isSome
    verdicts := if cs.isEmpty then [.missing] else cs.map (·.verdict)
    lastGood := match cs.find? (fun x => x.verdict == .good) with
      | some x => some x.offset
      | none => n.lastGood
    nodeReady := (good.map (·.nodeReady)).getD n.nodeReady
    localFault := (good.map (·.localFault)).getD n.localFault
    echo := echo.map (fun e => (e, echoLag number e)) }

/-- R27: MISSING verdicts, in node table order. -/
def State.missingVerdicts (s : State) (c : Cycle) : State :=
  s.lnk.nodes.foldl (fun s n =>
    if (c.chargesOf n).isEmpty then s.afterVerdict (some n) .missing c.number (s.clock - c.startAt)
    else s) s

/-- R51: the LINK event of one node's change of health. -/
def State.healthEvent (s : State) (old new : Node) : State :=
  if old.health != new.health then
    match new.health with
    | .degraded => s.raise ⟨.link, .toDegraded, none, new.stand⟩ s.time
    | .excluded => s.raise ⟨.link, .toExcluded, none, new.stand⟩ s.time
    | _ => s
  else s

/-- R50, R54: LNK's work at the compute start of a cycle: results, values, health, the silence count. The
detections that follow from it are taken by `State.settleStands`. Several nodes' TO_DEGRADED and TO_EXCLUDED events reach
EVC in node table order (R51 and R146 give none: DESIGN CHOICE, log entry 26). -/
def State.linkCompute (s : State) (c : Cycle) : State :=
  let s := s.missingVerdicts c
  let old := s.lnk.nodes
  let new := old.map (fun n => n.atComputeStart s.lnk.warn c.number (c.chargesOf n))
  let silence := if new.any (fun n => n.result == some true) then 0 else min (s.lnk.silence + 1) 3
  let s := { s with lnk := { s.lnk with nodes := new, silence := silence } }
  let changed := (old.zip new).any (fun p => p.1.health != p.2.health)
  let s := if changed then s.noteNode else s
  (old.zip new).foldl (fun s p => s.healthEvent p.1 p.2) s

end Sys2Proof.Machine
end

