-- ==== Sys2Proof/Machine/Tracking.lean ====
section
/-! DEFINITION. The Tracking Unit's work of one computation (chapter 4): points, counting, crossings, creation, forced
crossings, the drop of strip-present, head windows. -/

namespace Sys2Proof.Machine

/-! ## What a computation reads at compute start -/

/-- 00 Rounding, for quantities that are not negative. -/
def roundNat (n d : Nat) : Nat := (2 * n + d) / (2 * d)

/-- R87: the stretch, in µm. -/
def stretch (e : StandEntry) (force : Nat) : Int := roundDiv (((force : Int) - e.f0) * e.c) 1000

/-- R87: the gaugemeter thickness, clamped to 0 to 99,999. -/
def gaugemeter (e : StandEntry) (gap force : Nat) : Nat :=
  (clampInt 0 99999 ((gap : Int) + stretch e force)).toNat

/-- R62: the exit speed. -/
def exitSpeed (slip roll : Nat) : Nat := roundNat (roll * slip) 4096

/-- R62: the travel of a cycle. -/
def travelOf (speed cyc : Nat) : Nat := roundNat (speed * cyc) 1000

/-- R12: the head-on of stand k is an entry head-on. -/
def State.isEntryHeadOn (s : State) (k : Stand) (change : BiteChange) : Bool :=
  change == .headOn && (s.schedOf k).any (fun c => c.entryStand == some k)

/-- R60: stand k is the entry point: the entry stand of the schedule stand 1 uses, and using that schedule (log entry
12). -/
def State.isEntryPoint (s : State) (k : Stand) : Bool :=
  (s.schedOf 0).any (fun c => c.entryStand == some k) && (s.stand k).use == (s.stand 0).use

/-- R85: the inputs of stand k at a compute start, after LNK's work and before the bite update. -/
def State.snap (s : State) (k : Stand) : StandSnap :=
  let entry := s.entryOf k
  let gap := s.reading .gap (some k)
  let force := s.reading .force (some k)
  let speed := s.reading .speed (some k)
  let change := (s.biteOf k).2.2
  let hgm := match entry, gap.1, force.1 with
    | some e, some g, some f => some (gaugemeter e g f)
    | _, _, _ => none
  let v := match entry, speed.1 with
    | some e, some roll => exitSpeed e.slip roll
    | _, _ => 0
  { sched := s.schedOf k, entry := entry, gap := gap, force := force, speed := speed, change := change
    hgm := hgm, exitSpeed := v, travel := travelOf v s.cycleTime
    entryPoint := s.isEntryPoint k
    entryHeadOn := s.isEntryHeadOn k change
    reuse := s.isEntryHeadOn k change && (s.slotOf (s.stand k).use).any (·.barStarted) }

/-! ## Small operations -/

/-- TRK's state changed. -/
def State.withTrk (s : State) (f : Trk → Trk) : State := { s with trk := f s.trk }

/-- R73: NORMAL becomes DEGRADED. -/
def State.degrade (s : State) : State :=
  if s.trk.state = .normal then s.withTrk (fun t => { t with state := .degraded }) else s

/-- R31: point crossings charged to the computation. -/
def State.chargeCrossings (s : State) (n : Nat) : State :=
  { s with comp := s.comp.map (fun c => { c with crossings := c.crossings + n }) }

/-- R63, R64: points count in NORMAL and DEGRADED. -/
def State.tracking (s : State) : Bool := s.trk.state == .normal || s.trk.state == .degraded

/-- R69: what a slip does besides setting Q. -/
def State.slip (s : State) (stand : Option Stand) (zone : Option Zone) : State :=
  (s.raiseTrack .slip zone stand s.time).degrade

/-- R66: the last crossed point of a segment. -/
def Segment.lastCrossed (g : Segment) : Option Stand := g.list.getLast?.map (·.1)

/-- R66: the segment has crossed every point of its path. -/
def Segment.crossedAll (g : Segment) : Bool := g.list.length == g.pathLen

/-- R66, R71: the segment has reached stand k of schedule `c`. -/
def Segment.reaches (c : Schedule) (k : Stand) (g : Segment) : Bool :=
  g.coilId == c.coilId && (c.prevOf k).isSome && g.lastCrossed == c.prevOf k

/-- R66: the segment crosses stand point k. -/
def Segment.cross (k : Stand) (g : Segment) : Segment :=
  { g with list := g.list ++ [(k, meanOf g.sum g.count)], sum := 0, count := 0 }

/-- R63: one cycle's h_gm is added to the segment that counts. -/
def Segment.gather (h : Nat) (g : Segment) : Segment := { g with sum := g.sum + h, count := g.count + 1 }

/-- R104: one gauge reading is added, up to 65,535 of them. -/
def Segment.read (h : Nat) (g : Segment) : Segment :=
  if g.gaugeCount < 65535 then { g with gaugeSum := g.gaugeSum + h, gaugeCount := g.gaugeCount + 1 } else g

/-- The first segment that passes a test, changed. -/
def changeFirst (p : Segment → Bool) (f : Segment → Segment) : List Segment → List Segment
  | [] => []
  | g :: gs => if p g then f g :: gs else g :: changeFirst p f gs

/-- R66: the crossing threshold of a schedule's points, in µm². -/
def Schedule.threshold (c : Schedule) : Nat := c.vSeg * 1000000

/-- Q of stand point k takes a value. -/
def State.setQ (s : State) (k : Stand) (v : Nat) : State :=
  s.withTrk (fun t => { t with q := t.q.set k v })

/-! ## Creation (R67) -/

/-- R67: the zone of the n-th segment of a bar whose created volume is then `volume`. -/
def zoneFor (c : Schedule) (n volume : Nat) : Zone :=
  if n ≤ 4 then .head else if volume > c.vBar - c.vTail then .tail else .body

/-- R67: the segment a creation record becomes at the entry stand k. -/
def Creation.segment (r : Creation) (id : Half) (k : Stand) (zone : Zone) (degraded : Bool) : Segment :=
  { id := id, coilId := r.coilId, serial := r.serial, pathLen := r.pathLen, zone := zone
    degraded := degraded, reused := r.reused, trip := false, noGauge := false
    list := [(k, meanOf r.sum r.count)], sum := 0, count := 0, gaugeSum := 0, gaugeCount := 0 }

/-- R67: a segment of the open creation record is created at the entry stand k of schedule `c`, or refused when the
table is full; `tail` is the short last one of R72. -/
def State.create (s : State) (k : Stand) (c : Schedule) (tail : Bool) : State :=
  match s.trk.creation with
  | none => s
  | some r =>
    if Config.tableSize ≤ s.trk.segs.length then s.enterLost false s.time
    else
      let n := r.segCount + 1
      let volume := r.volume + c.vSeg
      let zone := if tail then .tail else zoneFor c n volume
      let g := r.segment s.trk.nextId k zone (s.trk.state == .degraded)
      let s := s.withTrk (fun t => { t with
        segs := t.segs ++ [g]
        nextId := t.nextId + 1
        created := t.created + 1
        creation := some { r with sum := 0, count := 0, segCount := n, volume := volume } })
      let s := (s.chargeCrossings 1).coilCreated r.coilId
      s.raiseTrack .created (some zone) (some k) s.time

/-! ## Step 1 of R65: the bite changes -/

/-- R80: the head-on of stand j closes the windows that have j as their target. Two of them, of stands of two schedules during
a coil change, close and raise EARLY_HEAD by increasing span stand; R80 and R146 give no order (DESIGN CHOICE, log entry
12). -/
def State.closeInto (s : State) (j : Stand) : State :=
  allStands.foldl (fun s k =>
    match s.trk.windows.get k with
    | none => s
    | some w =>
      if w.target = j then
        let early := decide (w.travel * 256 < w.span * 1000 * (256 - w.win))
        let s := s.withTrk (fun t => { t with windows := t.windows.set k none })
        if early then s.raiseTrack .earlyHead none (some k) s.time else s
      else s) s

/-- R79: stand k makes its tail-off with its window open. -/
def State.loseHead (s : State) (k : Stand) : State :=
  if (s.trk.windows.get k).isSome then
    let s := s.withTrk (fun t => { t with windows := t.windows.set k none })
    s.detect (.headLost k) s.time
  else s

/-- R71: the segments that have reached stand k are forced across, and Q is cleared. -/
def State.forceCross (s : State) (c : Schedule) (k : Stand) : State :=
  let reached := s.trk.segs.filter (Segment.reaches c k)
  let s := s.withTrk (fun t => { t with
    segs := t.segs.map (fun g => if g.reaches c k then g.cross k else g) })
  let s := s.chargeCrossings reached.length
  let s := (reached.drop 1).foldl (fun s g => s.slip (some k) (some g.zone)) s
  s.setQ k 0

/-- R72: the entry stand k makes its tail-off: the creation record is closed. -/
def State.closeCreation (s : State) (c : Schedule) (k : Stand) : State :=
  let s :=
    if s.trk.creation.any (fun r => decide (1 ≤ r.count)) then s.create k c true else s
  State.setQ (s.withTrk (fun t => { t with creation := none })) k 0

/-- R65 step 1: the tail-off of stand k. Its HEAD_LOST (R79) is handed before its forced crossings (R71) or the close of its
creation record (R72) raise their events, which may overflow a counter of action TRIP; R65 and R133 give no order (DESIGN
CHOICE, log entry 12). -/
def State.trackTailOff (s : State) (sn : StandSnap) (k : Stand) : State :=
  let s := s.loseHead k
  match sn.sched, sn.entry with
  | some c, some _ => if sn.entryPoint then s.closeCreation c k else s.forceCross c k
  | _, _ => s

/-- R74: an entry head-on at stand k starts a bar. -/
def State.startBar (s : State) (c : Schedule) (k : Stand) (reuse : Bool) : State :=
  let s :=
    if s.trk.state = .lost ∧ s.trk.speedLost then s
    else s.withTrk (fun t => { t with
      state := .normal
      creation := some ⟨c.coilId, c.serial, c.pathLen, reuse, 0, 0, 0, 0⟩ })
  if reuse then s.raiseTrack .reused none (some k) s.time else s

/-- R78: the head-on of stand k opens the head window of its span while the checks are armed. -/
def State.openWindow (s : State) (c : Schedule) (e : StandEntry) (k : Stand) : State :=
  match c.nextOf k with
  | none => s
  | some j =>
    if s.trp.armed then
      s.withTrk (fun t => { t with windows := t.windows.set k (some ⟨j, e.dSpan, e.win, 0⟩) })
    else s

/-- R65 step 1: head-ons close windows, tail-offs force crossings, entry head-ons start bars, head-ons open windows
(log entry 12). The head-ons are taken by increasing stand number, and so are the EARLY_HEAD events they raise; R80 and R146
give no order (DESIGN CHOICE, log entry 12). -/
def State.trackBites (s : State) (sn : Table 7 StandSnap) : State :=
  let s := allStands.foldl (fun s j =>
    if (sn.get j).change = .headOn then s.closeInto j else s) s
  let s := allStands.foldl (fun s k =>
    if (sn.get k).change = .tailOff then s.trackTailOff (sn.get k) k else s) s
  let s := allStands.foldl (fun s k =>
    match (sn.get k).entryHeadOn, (sn.get k).sched with
    | true, some c => s.startBar c k (sn.get k).reuse
    | _, _ => s) s
  allStands.foldl (fun s k =>
    match (sn.get k).change, (sn.get k).sched, (sn.get k).entry with
    | .headOn, some c, some e => s.openWindow c e k
    | _, _, _ => s) s

/-! ## Step 2: the drop of strip-present (R75) -/

/-- R75: segments that have crossed their whole path are removed, oldest first. -/
def State.removeCrossed : Nat → State → State
  | 0, s => s
  | n + 1, s =>
    match s.trk.segs with
    | [] => s
    | g :: _ =>
      if g.crossedAll then
        State.removeCrossed n ((s.chargeCrossings 1).removeOldest .stripEnd false s.time)
      else s

/-- R75: a drop of strip-present. -/
def State.stripDrop (s : State) : State :=
  (State.removeCrossed s.trk.segs.length s).withTrk (fun t => { t with qGauge := 0 })

/-! ## Step 3: counting and crossings (R63 to R69) -/

/-- R60: the feed stand of the gauge point. -/
def feedStand (sn : Table 7 StandSnap) : Option Stand := (sn.get 6).sched.bind (·.lastStand)

/-- R66, R68, R69: the crossing test of the gauge point with threshold `thr`. -/
def State.gaugeCross (s : State) (thr : Nat) : State :=
  let q := s.trk.qGauge
  if q < thr then s
  else
    match s.trk.segs.head? with
    | none => (s.withTrk (fun t => { t with qGauge := thr - 1 })).slip none none
    | some g =>
      if g.crossedAll then
        let surplus := decide (thr ≤ q - thr)
        let s := s.withTrk (fun t => { t with qGauge := if surplus then thr - 1 else q - thr })
        let s := (s.chargeCrossings 1).removeOldest .gauge false s.time
        if surplus then s.slip none (some g.zone) else s
      else (s.withTrk (fun t => { t with qGauge := thr - 1 })).slip none none

/-- R64, R104: the gauge point counts. The schedule of the gauge point, whose V_seg sets its threshold (R66), is the one stand
7 uses at the compute start, as R60 takes its feed stand from that; where stand 7 uses none, no test is made (DEDUCED, log
entry 24). -/
def State.countGauge (s : State) (sn : Table 7 StandSnap) : State :=
  match s.nodeFor .exitGauge none with
  | none => s
  | some n =>
    match n.value with
    | none => s
    | some h =>
      if s.tracking && n.strip then
        let badSpeed := (feedStand sn).any (fun k =>
          (s.stand k).bite == .loaded && (sn.get k).speed.2 != .fresh)
        let s := if badSpeed then s.degrade else s
        let s := s.withTrk (fun t => { t with
          qGauge := t.qGauge + h * travelOf t.gaugeSpeed s.cycleTime
          segs := match t.segs with
            | [] => []
            | g :: gs => if n.mark == .fresh && g.crossedAll then g.read h :: gs else g :: gs })
        match (sn.get 6).sched with
        | none => s
        | some c => s.gaugeCross c.threshold
      else s

/-- R66, R67, R69: the crossing test of stand point k. -/
def State.standCross (s : State) (c : Schedule) (entryPoint : Bool) (k : Stand) : State :=
  let thr := c.threshold
  let q := s.trk.q.get k
  if q < thr then s
  else
    let surplus := decide (thr ≤ q - thr)
    let left := if surplus then thr - 1 else q - thr
    if entryPoint && s.trk.creation.isSome then
      if Config.tableSize ≤ s.trk.segs.length then s.create k c false
      else
        let s := (s.setQ k left).create k c false
        if surplus then s.slip (some k) (s.trk.segs.getLast?.map (·.zone)) else s
    else
      match s.trk.segs.find? (Segment.reaches c k) with
      | some g =>
        if entryPoint then (s.setQ k (thr - 1)).slip (some k) none
        else
          let s := (s.setQ k left).withTrk (fun t => { t with
            segs := changeFirst (Segment.reaches c k) (Segment.cross k) t.segs })
          let s := s.chargeCrossings 1
          if surplus then s.slip (some k) (some g.zone) else s
      | none => (s.setQ k (thr - 1)).slip (some k) none

/-- R63, R73: stand point k counts. -/
def State.countStand (sn : Table 7 StandSnap) (s : State) (k : Stand) : State :=
  let p := sn.get k
  match p.sched, p.entry with
  | some c, some _ =>
    if s.tracking && (s.stand k).bite == .loaded then
      match p.hgm with
      | none => s.degrade
      | some h =>
        let s := if p.speed.2 = .fresh then s else s.degrade
        let s := s.setQ k (s.trk.q.get k + h * p.travel)
        let s := s.withTrk (fun t =>
          if p.entryPoint then
            { t with creation := t.creation.map (fun r => { r with sum := r.sum + h, count := r.count + 1 }) }
          else { t with segs := changeFirst (Segment.reaches c k) (Segment.gather h) t.segs })
        s.standCross c p.entryPoint k
    else s
  | _, _ => s

/-! ## Step 4: head windows (R79) -/

/-- R79: the window of stand k takes the cycle's travel and is tested. -/
def State.advanceWindow (sn : Table 7 StandSnap) (s : State) (k : Stand) : State :=
  match s.trk.windows.get k with
  | none => s
  | some w =>
    let x := w.travel + (sn.get k).travel
    if (s.stand w.target).bite = .empty ∧ w.span * 1000 * (256 + w.win) < x * 256 then
      let s := s.withTrk (fun t => { t with windows := t.windows.set k none })
      s.detect (.headLost k) s.time
    else s.withTrk (fun t => { t with windows := t.windows.set k (some { w with travel := x }) })

/-! ## The whole of TRK's work (R65) -/

/-- R58, R76: speed-lost as LNK presents it at this compute start. Where the flush of a first presentation falls in R65's
order the spec does not say: DESIGN CHOICE, before step 1, with LNK's work (log entry 24). -/
def State.presentSpeedLost (s : State) (sn : Table 7 StandSnap) : State :=
  let lost := allStands.any (fun k => (sn.get k).entry.isSome && s.excluded .speed (some k))
  let first := lost && !s.trk.speedLost
  let s := s.withTrk (fun t => { t with speedLost := lost })
  if first then s.enterLost false s.time else s

/-- R62: the gauge speed takes the exit speed of a LOADED feed stand. A feed stand, which R60 takes from stand 7's schedule,
may have no point of its own, dummied by the new schedule it has switched to; R62 then gives it no exit speed: DESIGN
CHOICE, 0 (log entry 24). -/
def State.updateGaugeSpeed (s : State) (sn : Table 7 StandSnap) : State :=
  match feedStand sn with
  | none => s
  | some k =>
    if (s.stand k).bite = .loaded then s.withTrk (fun t => { t with gaugeSpeed := (sn.get k).exitSpeed })
    else s

/-- R65: TRK's work of one computation; `drop` tells a drop of strip-present (R75). The flush of speed-lost comes before
step 1, and at step 4 the head windows are advanced and tested by increasing span number, so that the lowest of several
that overrun latches (R79 gives no order): DESIGN CHOICE, log entry 24. -/
def State.track (s : State) (sn : Table 7 StandSnap) (drop : Bool) : State :=
  let s := (s.presentSpeedLost sn).updateGaugeSpeed sn
  let s := s.trackBites sn
  let s := if allStands.any (fun k => (sn.get k).change != .none) then s.switchTest else s
  let s := if drop then s.stripDrop else s
  let s := s.countGauge sn
  let s := standsDown.foldl (State.countStand sn) s
  allStands.foldl (State.advanceWindow sn) s

end Sys2Proof.Machine
end

