-- ==== Sys2Proof/Machine/GapLaw.lean ====
section
/-! DEFINITION. The gap law (chapter 5): the stages R87 to R92, what each effective mode forms (R93, R94), the zone of
an event (R99), the gap-deviation test (R101). -/

namespace Sys2Proof.Machine

/-! ## Stages -/

/-- R87: the thickness reference of a stand. -/
def hRef (e : StandEntry) (hLock : Option Int) : Int :=
  if e.nLock = 0 then e.hTgt else hLock.getD e.hTgt

/-- R88: the step before its clamp. -/
def rawStep (e : StandEntry) (dev : Int) : Int := -(roundDiv (dev * e.kg) 1024)

/-- R88: the step. -/
def gapStep (e : StandEntry) (dev : Int) : Int := clampAbs e.dStep (rawStep e dev)

/-- R89: the integrator candidate before R92. -/
def integrate (e : StandEntry) (i u : Int) : Int := clampAbs e.iMax (i + u)

/-- R90: the feedforward term, from the thickness of the segment in the bite and the h_tgt of the previous in-service
stand. -/
def feedforward (e : StandEntry) (h hTgtPrev : Int) : Int :=
  clampAbs e.iMax (-(roundDiv ((h - hTgtPrev) * e.kf) 1024))

/-- R91: the monitor share. -/
def monitorShare (e : StandEntry) (mi : Int) : Int := roundDiv (mi * e.share) 256

/-- R92: a reference clamped to the limits of the stand entry. -/
def rangeClamp (e : StandEntry) (r : Int) : Int := clampInt e.sMin e.sMax r

/-- R92: the anti-windup: the candidate is set back to I when the reference was clamped in the direction of the
step. -/
def antiWindup (e : StandEntry) (raw u i i' : Int) : Int :=
  if ((e.sMax : Int) < raw ∧ 0 < u) ∨ (raw < (e.sMin : Int) ∧ u < 0) then i else i'

/-! ## The segment in the bite (R90) and the zone of an event (R99) -/

/-- R90: the segment in the bite of stand k of schedule `c`; none when tracking is LOST. -/
def Trk.inBite (t : Trk) (c : Schedule) (k : Stand) : Option Segment :=
  if t.state = .lost then none else t.segs.find? (Segment.reaches c k)

/-- R90: FF of stand k. -/
def Trk.feedforwardOf (t : Trk) (c : Schedule) (e : StandEntry) (k : Stand) : Int :=
  match t.inBite c k, (c.prevOf k).bind (fun p => c.entries.get p) with
  | some g, some pe =>
    match g.list.getLast? with
    | some (_, some h) => feedforward e h pe.hTgt
    | _ => 0
  | _, _ => 0

/-- R99: the zone of an event of stand k. At an entry stand it is the zone of the next creation from the open record, with
V_seg, V_bar and V_tail of the schedule `c` the stand itself uses; that the record may belong to another schedule R99 and
R67 do not foresee: DESIGN CHOICE, log entry 25. -/
def Trk.eventZone (t : Trk) (c : Schedule) (k : Stand) : Option Zone :=
  if t.state = .lost then none
  else if c.entryStand = some k then
    t.creation.map (fun r => zoneFor c (r.segCount + 1) (r.volume + c.vSeg))
  else (t.inBite c k).map (·.zone)

/-! ## One stand (R93, R94) -/

/-- R85: what GAP reads of a stand for one computation, as the table of R85 dates it. -/
structure LawInput where
  sched : Option Schedule
  entry : Option StandEntry
  hgm : Option Nat
  mode : Effective
  trim : Int
  hLock : Option Int
  integrator : Int
  mi : Int
  trk : Trk
  deviation : Bool
  deriving DecidableEq, Repr

/-- R94: S_set + trim, before its clamp. -/
def setPoint (e : StandEntry) (trim : Int) : Int := (e.sSet : Int) + trim

/-- R92, R94: a reference recorded after its clamp. -/
def clampedRef (e : StandEntry) (raw : Int) : Ref := .um (rangeClamp e raw)

/-- R92: the range clamp changes the value. -/
def outOfRange (e : StandEntry) (raw : Int) : Bool := decide (rangeClamp e raw ≠ raw)

/-- R93: the modes that form feedforward and monitor share. -/
def Effective.driven : Effective → Bool
  | .position => false
  | .gaugeWait => false
  | .locking => true
  | .gaugeHeld => true
  | .gauge => true

/-- R93: the law of a stand in service under schedule `c` with entry `e`, its S and F present. In POSITION and GAUGE_WAIT
the candidate is 0 while the I' published is I (R89). -/
def formInMode (x : LawInput) (c : Schedule) (e : StandEntry) (k : Stand) (h : Nat) : Formed :=
  let dev : Int := (h : Int) - hRef e x.hLock
  let zone := x.trk.eventZone c k
  if x.mode.driven then
    let stepping := x.mode == .gauge
    let u := if stepping then gapStep e dev else 0
    let i' := if stepping then integrate e x.integrator u else x.integrator
    let ff := x.trk.feedforwardOf c e k
    let m := monitorShare e x.mi
    let raw := setPoint e x.trim + i' + ff + m
    let candidate := antiWindup e raw u x.integrator i'
    { computed := ⟨some h, some dev, some u, some candidate, some ff, some m⟩
      ref := clampedRef e raw, candidate := candidate
      stepLimited := stepping && decide (gapStep e dev ≠ rawStep e dev)
      authority := stepping && decide (i' ≠ x.integrator + u)
      range := outOfRange e raw, deviation := x.deviation, inService := true, zone := zone }
  else
    let raw := setPoint e x.trim
    { computed := ⟨some h, some dev, some 0, some x.integrator, none, none⟩
      ref := clampedRef e raw, candidate := 0, stepLimited := false, authority := false
      range := outOfRange e raw, deviation := x.deviation, inService := true, zone := zone }

/-- R94 row 1: in service with S or F "none"; I' = I (R89) and the candidate 0. Of its events only RANGE, and LATE_RESULT
in a late computation, which R99 and R32 give every stand in service although R94 names RANGE alone (DEDUCED, log entry
25). -/
def formWithout (x : LawInput) (c : Schedule) (e : StandEntry) (k : Stand) : Formed :=
  let raw := setPoint e x.trim
  { computed := ⟨none, none, none, some x.integrator, none, none⟩
    ref := clampedRef e raw, candidate := 0, stepLimited := false, authority := false
    range := outOfRange e raw, deviation := false, inService := true, zone := x.trk.eventZone c k }

/-- R94: a stand that is not in service forms no value but its reference. -/
def formOut (r : Ref) : Formed :=
  { computed := Computed.absent, ref := r, candidate := 0, stepLimited := false, authority := false
    range := false, deviation := false, inService := false, zone := none }

/-- R33, R94: S_open of a stand that schedule `c` dummies, a free value (log entry 8). -/
def Schedule.dummyOpen (c : Schedule) (k : Stand) : Int :=
  clampInt 0 99999 (Config.dummiedOpen c.serial (standNumber k))

/-- R93, R94: what the law forms for stand k, from the inputs as they stood at compute start. -/
def formBefore (x : LawInput) (k : Stand) : Formed :=
  match x.sched, x.entry with
  | none, _ => formOut .openFull
  | some c, none => formOut (.um (c.dummyOpen k))
  | some c, some e =>
    match x.hgm with
    | none => formWithout x c e k
    | some h => formInMode x c e k h

/-- R94 rows 4 and 5: the outcome of a stand that switched within the computation to schedule `c`: the reference of its
new entry (its trim is 0), the candidate 0, and what it had formed at compute start. Of its events only RANGE, and
LATE_RESULT as for row 1 (DEDUCED, log entry 25). -/
def formSwitched (before : Formed) (c : Schedule) (k : Stand) : Formed :=
  match c.entries.get k with
  | some e =>
    let raw := setPoint e 0
    { before with
      ref := clampedRef e raw, candidate := 0, stepLimited := false, authority := false
      range := outOfRange e raw, deviation := false }
  | none =>
    { formOut (.um (c.dummyOpen k)) with inService := before.inService, zone := before.zone }

/-! ## Gap deviation (R101) -/

/-- R101: the deviation count of a stand after the test of one compute start, and whether the test raised it. `e` is
absent for a stand that is not in service; `latch` is the trip latch at compute start; `force` is the stand's F. A stand
whose F is "none" is not counted (R56, R94), its count kept as R101 keeps it for a "none" S (DEDUCED, log entry 25). -/
def deviationStep (e : Option StandEntry) (bite : Bite) (latch : Bool) (rPrev : Option Int)
    (gap : Option Nat × Mark) (force : Option Nat) (count : Nat) : Nat × Bool :=
  match e, bite, latch, rPrev, gap, force with
  | none, _, _, _, _, _ => (0, false)
  | some _, .empty, _, _, _, _ => (0, false)
  | some _, .loaded, true, _, _, _ => (0, false)
  | some _, .loaded, false, none, _, _ => (0, false)
  | some e, .loaded, false, some r, (some v, .fresh), some _ =>
    if e.devLim < ((v : Int) - r).natAbs then (min (count + 1) 255, decide (count < 255)) else (0, false)
  | some _, .loaded, false, some _, _, _ => (count, false)

/-- R102: GAP_DEVIATION is handed when a test that raised the count has it reach N_dev. A count raised past N_dev, after a
TRIP_RESET that came before the next compute start, hands it no second time; R102 does not say (DESIGN CHOICE, log entry
25). -/
def deviationTrips (e : Option StandEntry) (r : Nat × Bool) : Bool :=
  e.any (fun e => r.2 && decide (r.1 = e.nDev))

end Sys2Proof.Machine
end

