-- ==== Sys2Proof/Machine/ModeOrders.lean ====
section
/-! DEFINITION. SET_MODE and OPERATOR_TRIM (R15, R16, R21): their checks and effects, made at once in HALTED and at a
compute start while the link runs. -/

namespace Sys2Proof.Machine

/-- 11.8: a mode an order names. -/
def requestedOf (w : Word) : Option Requested :=
  if w = 1 then some .position else if w = 2 then some .gauge else none

/-- R16: SET_MODE checked and applied: the state, the outcome and the result words. -/
def State.applySetMode (s : State) (stand mode : Word) : State × OrderOutcome × List Word :=
  match standOf stand.toNat, requestedOf mode with
  | none, _ => (s, .badArgument, [0x0B, 0])
  | some _, none => (s, .badArgument, [0x0C, 0])
  | some k, some m =>
    if !s.inService k then (s, .badArgument, [0x0B, 0])
    else if m = .gauge ∧ s.trp.latch = true then (s, .tripped, [])
    else (s.modifyStand k (fun r => { r with requested := m }), .ok, [])

/-- R21: OPERATOR_TRIM checked and applied: the state, the outcome and the result words. -/
def State.applyTrim (s : State) (stand trim : Word) : State × OrderOutcome × List Word :=
  match standOf stand.toNat with
  | none => (s, .badArgument, [0x0B, 0])
  | some k =>
    match s.entryOf k with
    | none => (s, .badArgument, [0x0B, 0])
    | some e =>
      let applied := clampAbs e.trimMax trim.toInt
      (s.modifyStand k (fun r => { r with trim := applied }), .ok, [BitVec.ofInt 32 applied])

/-- R179: an order completes with what its owner answered. -/
def State.completeWith (r : State × OrderOutcome × List Word) : State := r.1.complete r.2.1 r.2.2

/-- R15: the TAKEN SET_MODE or OPERATOR_TRIM is checked, applied and completed at a compute start. -/
def State.deferredModeOrder (s : State) : State :=
  match s.ord.taken with
  | none => s
  | some t =>
    match t.kind with
    | .setMode => State.completeWith (s.applySetMode (t.arg 0) (t.arg 1))
    | .operatorTrim => State.completeWith (s.applyTrim (t.arg 0) (t.arg 1))
    | _ => s

end Sys2Proof.Machine
end

