-- ==== Sys2Proof/Machine/ComputeStart.lean ====
section
/-! DEFINITION. The work of a compute start (R28, R50, R85, R86; the order of the work: log entry 11). -/

namespace Sys2Proof.Machine

/-! ## Opening a computation -/

/-- A computed result before anything is formed. -/
def Formed.blank : Formed := formOut .openFull

/-- R31: the computation of cycle `c` as it begins; it is late already when its T_cmd has passed (R32). -/
def Computation.opened (c : Cycle) (clock : Nat) (time : Word) (setup : Table 7 (Option Schedule)) : Computation :=
  { number := c.number, cycleAt := c.startAt, late := c.offsetPassed, working := true, startTime := time
    endAt := clock, crossings := 0, switches := 0, switched := Table.fill 7 false, setup := setup, gaugeExcluded := false
    formed := Table.fill 7 Formed.blank }

/-- R31: a computation of cycle `c` begins now. -/
def State.openComputation (s : State) (c : Cycle) : State :=
  { s with comp := some (Computation.opened c s.clock s.time (Table.build s.schedOf)) }

/-! ## Bites, lock-on, modes -/

/-- R12: an entry head-on sets the bar-started flag of the slot its stand uses. -/
def State.startSlotBar (s : State) (k : Stand) : State :=
  match (s.stand k).use with
  | .none => s
  | .active =>
    { s with stu := { s.stu with active := s.stu.active.map (fun h => { h with barStarted := true }) } }
  | .pending =>
    { s with stu := { s.stu with pending := s.stu.pending.map (fun h => { h with barStarted := true }) } }

/-- R13, R14, R19: the bite update of every stand, with what a tail-off clears. -/
def State.biteUpdate (s : State) : State :=
  let bites := Table.build (n := 7) s.biteOf
  { s with
    stu := { s.stu with
      stands := Table.build (fun k => (s.stand k).bitten (bites.get k)) }
    gap := { s.gap with
      stands := Table.build (fun k => (s.gapStand k).bitten (bites.get k)) } }

/-- R17: a stand's GAP and FORCE values are both fresh. -/
def StandSnap.fresh (p : StandSnap) : Bool := p.gap.2 == .fresh && p.force.2 == .fresh

/-- R18: lock-on of stand k. -/
def State.lockOn (sn : Table 7 StandSnap) (s : State) (k : Stand) : State :=
  let p := sn.get k
  match p.entry with
  | none => s
  | some e =>
    let r := s.stand k
    let l := lockStep e.nLock r.bite p.fresh (s.gapStand k).hLock r.lockCount r.lockSum p.hgm
    (s.modifyStand k (fun r => { r with lockCount := l.1, lockSum := l.2.1 })).modifyGap k
      (fun g => { g with hLock := l.2.2 })

/-- R17: the effective mode of every stand, from the run state and the requested modes of `start`, the state at this
compute start. -/
def State.deriveModes (s start : State) (sn : Table 7 StandSnap) : State :=
  { s with stu := { s.stu with stands := Table.build (fun k =>
      let r := s.stand k
      { r with effective := effectiveMode start.lnk.runState ((sn.get k).entry.map (·.nLock))
                  (start.stand k).requested r.bite r.lockCount (sn.get k).fresh }) } }

/-! ## Detections (R133) -/

/-- R57: node `new`, which was `old`, hands NODE_LOST. -/
def State.losesNode (s : State) (sn : Table 7 StandSnap) (old new : Node) : Option Cause :=
  match new.role, new.stand with
  | .gap, some k =>
    if new.health = .excluded ∧
        ((old.health ≠ .excluded ∧ (s.stand k).bite = .loaded) ∨ (sn.get k).change = .headOn) then
      some (.nodeLost new.address k)
    else none
  | .force, some k =>
    if new.health = .excluded ∧ old.health ≠ .excluded ∧ (s.stand k).bite = .loaded then
      some (.nodeLost new.address k)
    else none
  | _, _ => none

/-- R57: NODE_LOST of every node, in node table order (no rule gives one: DESIGN CHOICE, log entry 26); `before` is the node
table before this compute start. -/
def State.detectNodes (s : State) (sn : Table 7 StandSnap) (before : List Node) : State :=
  (before.zip s.lnk.nodes).foldl (fun s p =>
    match s.losesNode sn p.1 p.2 with
    | none => s
    | some c => s.detect c s.time) s

/-- R121: FORCE_LIMIT of stand k. -/
def State.judgeForce (sn : Table 7 StandSnap) (s : State) (k : Stand) : State :=
  let p := sn.get k
  match p.entry, p.force with
  | none, _ => s.setForceLimit k false
  | some _, (none, _) => s.setForceLimit k false
  | some e, (some f, .fresh) => s.setForceLimit k (decide (e.fMax < f))
  | some _, (some _, _) => s

/-- R124 to R128: TRP takes the bite change of stand k; `windows` are the head windows before the bite changes. The arm flag
is the one the changes of lower-numbered stands have left (R128), so that an entry head-on at a higher-numbered stand does
not arm the test of a lower one, where R125 and R127 speak of the flag after any arming at this compute start (DEDUCED, log
entry 27). -/
def State.sequenceCheck (sn : Table 7 StandSnap) (windows : Table 7 (Option Window)) (s : State) (k : Stand) :
    State :=
  let p := sn.get k
  match p.change with
  | .none => s
  | .tailOff => s.seqTailOff k
  | .headOn =>
    if p.entryHeadOn then s.armChecks
    else match p.sched, p.entry with
      | some c, some _ => s.seqHeadOn c windows k
      | _, _ => s

/-- R101, R102: the gap-deviation test of stand k; `latch` is the latch at compute start. The flag tells that the test
raised the count. The stands are tested by increasing number, so that the lowest of several GAP_DEVIATION causes comes
first (R133 gives no order: DESIGN CHOICE, log entry 26). -/
def State.deviationTest (sn : Table 7 StandSnap) (latch : Bool) (x : State × Table 7 Bool) (k : Stand) :
    State × Table 7 Bool :=
  let s := x.1
  let p := sn.get k
  let g := s.gapStand k
  let r := deviationStep p.entry (s.stand k).bite latch g.rPrev p.gap p.force.1 g.devCount
  let s := s.modifyGap k (fun g => { g with devCount := r.1 })
  let s := if deviationTrips p.entry r then s.detect (.gapDeviation k) s.time else s
  (s, x.2.set k r.2)

/-! ## The whole compute start -/

/-- R75: a fresh gauge reply whose strip-present is clear, after a kept one that was set. -/
def stripDropped (before after : Option Node) : Bool :=
  before.any (·.strip) && after.any (fun n => n.mark == .fresh && !n.strip)

/-- R85: GAP's inputs of stand k. `start` is the state at this compute start, `s` the state after lock-on, mode
derivation and the tail-off clearings. -/
def lawInput (start s : State) (sn : Table 7 StandSnap) (raised : Table 7 Bool) (k : Stand) : LawInput :=
  { sched := (sn.get k).sched, entry := (sn.get k).entry, hgm := (sn.get k).hgm
    mode := (s.stand k).effective, trim := (s.stand k).trim
    hLock := (s.gapStand k).hLock, integrator := (s.gapStand k).integrator
    mi := start.gap.mi, trk := start.trk, deviation := raised.get k }

/-- R86 step 2: what GAP forms for stand k, from its inputs and the switches made in this computation. -/
def State.formStand (s : State) (inputs : Table 7 LawInput) (k : Stand) : Formed :=
  let before := formBefore (inputs.get k) k
  match s.comp, s.schedOf k with
  | some c, some sched => if c.switched.get k then formSwitched before sched k else before
  | _, _ => before

/-- R31: the compute duration. -/
def computeDuration (inService crossings switches : Nat) : Nat :=
  Config.computeBase + Config.computeStand * inService + Config.computeCrossing * crossings +
    Config.computeSwitch * switches

/-- R31: the work of compute start is done: the results are kept and the compute end is fixed. -/
def State.closeWork (s : State) (sn : Table 7 StandSnap) (inputs : Table 7 LawInput) : State :=
  let n := (allStands.filter (fun k => (sn.get k).entry.isSome)).length
  { s with
    comp := s.comp.map (fun c =>
      let switches := c.switches + s.stu.switchCharge
      { c with
        working := false
        switches := switches
        formed := Table.build (s.formStand inputs)
        endAt := s.clock + computeDuration n c.crossings switches })
    stu := { s.stu with switchCharge := 0 } }

/-- R13 to R19, R57: bites, entry head-ons, lock-on and modes; then the detections of LNK and TRP, several FORCE_LIMIT
taken by increasing stand number (R133 gives no order among them: DESIGN CHOICE, log entry 26). -/
def State.settleStands (s start : State) (sn : Table 7 StandSnap) : State :=
  let s := s.biteUpdate
  let s := allStands.foldl (fun s k => if (sn.get k).entryHeadOn then s.startSlotBar k else s) s
  let s := allStands.foldl (State.lockOn sn) s
  let s := s.deriveModes start sn
  let s := s.detectNodes sn start.lnk.nodes
  let s := s.setLinkSilent (decide (s.lnk.silence = 3))
  let s := allStands.foldl (State.judgeForce sn) s
  allStands.foldl (State.sequenceCheck sn start.trk.windows) s

/-- R28, R50, R86, R133: the compute start of cycle `c`, in the order of log entry 11. An order that ORD takes when a waiting
SET_MODE or OPERATOR_TRIM completes here, a COUNTER_PROGRAM (R145) or a CLOSE_PAGE (R168) among them, is acted on after this
work and so after its events and reports, where those rules allow either order (DESIGN CHOICE, log entry 11). -/
def State.computeStart (s : State) (c : Cycle) : State :=
  let start := s.deferredModeOrder
  let s := (start.openComputation c).linkCompute c
  let out := s.excluded .exitGauge none
  let s := { s with comp := s.comp.map (fun (x : Computation) => { x with gaugeExcluded := out }) }
  let sn := Table.build (n := 7) s.snap
  let drop := stripDropped (start.nodeFor .exitGauge none) (s.nodeFor .exitGauge none)
  let s := s.settleStands start sn
  let x := allStands.foldl (State.deviationTest sn start.trp.latch) (s, Table.fill 7 false)
  let inputs := Table.build (n := 7) (lawInput start x.1 sn x.2)
  (x.1.track sn drop).closeWork sn inputs

/-- R28: the compute start of the cycle in progress. -/
def State.startCurrent (s : State) : State :=
  match s.lnk.cycle with
  | none => s
  | some c =>
    let s := { s with lnk := { s.lnk with cycle := some { c with started := true } } }
    s.computeStart c

/-- R28: the compute start of the oldest ended cycle that still waits for it. -/
def State.startWaiting (s : State) : State :=
  match s.lnk.waiting with
  | [] => s
  | c :: rest => State.computeStart { s with lnk := { s.lnk with waiting := rest } } c

/-- R28: compute start of the cycle in progress is due now: it comes at once unless an earlier computation is in
progress or an earlier cycle waits. -/
def State.computeStartDue (s : State) : State :=
  match s.lnk.cycle with
  | none => s
  | some c =>
    let s := { s with lnk := { s.lnk with cycle := some { c with due := true } } }
    if s.comp.isNone && s.lnk.waiting.isEmpty && !c.started then s.startCurrent else s

/-- R28: the next compute start that waits for a compute end which has now come. -/
def State.startNext (s : State) : State :=
  if s.lnk.runState = .halted then s
  else if !s.lnk.waiting.isEmpty then s.startWaiting
  else if s.lnk.cycle.any (fun c => c.due && !c.started) then s.startCurrent
  else s

end Sys2Proof.Machine
end

