-- ==== Sys2Proof/Machine/CycleEvents.lean ====
section
/-! DEFINITION. The other moments of a link cycle: compute end (R96 to R99, R183), the command offset with its SET
frame (R32 to R34, R100), the arrival of a frame (R26, R28), the reply deadline. -/

namespace Sys2Proof.Machine

/-! ## Compute end -/

/-- R96, R97, R98: GAP's record of a stand after a compute end. `late`: the results are discarded; `frozen`: the latch is
set, or was set within the computation, and no integrator commits. -/
def GapRec.atComputeEnd (g : GapRec) (f : Formed) (late frozen : Bool) : GapRec :=
  { g with
    committed := if late then g.committed else some f.ref
    integrator := if late || frozen then g.integrator else f.candidate
    computed := f.computed
    formed := some f.ref
    late := late }

/-- R96, R97: GAP commits or discards the results of a computation. -/
def State.commitOrDiscard (s : State) (c : Computation) : State :=
  let frozen := s.trp.latch || s.trk.tripFlush
  { s with gap := { s.gap with
      stands := Table.build (fun k => (s.gapStand k).atComputeEnd (c.formed.get k) c.late frozen) } }

/-- R99: the subevents of a stand, in the order of the table's rows; R99 and R146 give no order in which EVC takes them
(DESIGN CHOICE, log entry 15). -/
def Formed.subevents (f : Formed) (late : Bool) : List Subevent :=
  (if f.stepLimited then [.stepLimited] else []) ++ (if f.authority then [.authority] else []) ++
  (if f.range then [.range] else []) ++ (if f.deviation then [.deviation] else []) ++
  (if late && f.inService then [.lateResult] else [])

/-- R99: the GAP events of one stand. -/
def State.raiseGap (c : Computation) (s : State) (k : Stand) : State :=
  let f := c.formed.get k
  (f.subevents c.late).foldl (fun s sub => s.raise ⟨.gap, sub, f.zone, some k⟩ c.startTime) s

/-- R32: the cycle of a computation knows that it has reached compute end. -/
def State.markEnded (s : State) (c : Computation) : State :=
  { s with lnk := { s.lnk with
      cycle := s.lnk.cycle.map (fun (x : Cycle) =>
        if x.startAt = c.cycleAt then { x with ended := true } else x) } }

/-- R31, R86 step 3, R76, R183, R28: the computation in progress reaches its compute end, in the order of log entry
15. -/
def State.computeEndEvent (s : State) : State :=
  match s.comp with
  | none => s
  | some c =>
    let s := s.commitOrDiscard c
    let s := allStands.foldl (State.raiseGap c) s
    let s := s.tripFlushNow c.startTime
    let s := State.markEnded { s with comp := none } c
    s.statusWrite.startNext

/-! ## The command offset -/

/-- R33, R34: the entry of the SET frame for a stand: none for NONE, a reference or OPEN_FULL. `c` and `e`: the schedule it
uses now and its entry there; `free` stands for a committed OPEN_FULL in a RUN frame (log entry 8). -/
def setEntry (now : RunState) (latch : Bool) (c : Option Schedule) (e : Option StandEntry) (k : Stand)
    (committed : Option Ref) (free : Int) : Option Ref :=
  match c, e with
  | none, _ => some .openFull
  | some c, none => some (.um (c.dummyOpen k))
  | some _, some e =>
    if latch then some (.um e.sOpen)
    else if now ≠ .run then none
    else match committed with
      | none => some (.um e.sOpen)
      | some (.um r) => some (clampedRef e r)
      | some .openFull => some (clampedRef e free)

/-- 11.7: a SET value. -/
def setValue : Option Ref → Word
  | none => 0xFFFFFFFF
  | some .openFull => 0xFFFFFFFE
  | some (.um r) => BitVec.ofInt 32 r

/-- R32, R33: the schedule stand k uses at T_cmd. A switch made in a computation commits at its compute end, so while that
computation is in progress the stand still has the schedule of its compute start (DEDUCED, log entry 22). -/
def State.schedSent (s : State) (k : Stand) : Option Schedule :=
  match s.comp with
  | none => s.schedOf k
  | some c => if c.switched.get k then c.setup.get k else s.schedOf k

/-- R33: the entry of the SET frame for stand k now. -/
def State.setEntryOf (s : State) (k : Stand) : Option Ref :=
  setEntry s.lnk.runState s.trp.latch (s.schedSent k) ((s.schedSent k).bind (·.entries.get k)) k
    (s.gapStand k).committed (Config.openFullReference (s.freeCount + k.val))

/-- R33, R191: the SET frame of the cycle. -/
def State.setFrame (s : State) (number : Half) (late : Bool) : List Byte :=
  let held := s.lnk.runState == .ready || late
  let gaps := s.lnk.nodes.filter (fun n => n.role == .gap)
  withCrc ([0x53] ++ halfBytes number ++
    [BitVec.ofNat 8 (flagByte s.trp.latch + 2 * flagByte held), BitVec.ofNat 8 gaps.length] ++
    gaps.flatMap (fun n => n.address :: (n.stand.map (fun k => wordBytes (setValue (s.setEntryOf k)))).getD []))

/-- R100: what R_prev records of the entry sent for a stand. -/
def recordedPrev (hasNode : Bool) (entry : Option Ref) : Option Int :=
  match hasNode, entry with
  | true, some (.um r) => some r
  | _, _ => none

/-- R100: GAP records the entries sent. -/
def State.recordPrev (s : State) : State :=
  { s with gap := { s.gap with
      stands := Table.build (fun k =>
        { s.gapStand k with rPrev := recordedPrev (s.nodeFor .gap (some k)).isSome (s.setEntryOf k) }) } }

/-- R32: T_cmd passes: a computation of this cycle still in progress is late. -/
def State.passOffset (s : State) (c : Cycle) : State :=
  { s with
    lnk := { s.lnk with cycle := some { c with offsetPassed := true } }
    comp := s.comp.map (fun (x : Computation) => if x.cycleAt = c.startAt then { x with late := true } else x) }

/-- R32: a compute end that falls at T_cmd itself comes first, and is in time. -/
def State.endFirst (s : State) : State :=
  match s.comp, s.lnk.cycle with
  | some x, some c => if x.cycleAt = c.startAt ∧ x.endAt ≤ s.clock then s.computeEndEvent else s
  | _, _ => s

/-- R32 to R34, R100: the command offset of the cycle in progress. -/
def State.commandOffsetEvent (s : State) : State :=
  let s := s.endFirst
  match s.lnk.cycle with
  | none => s
  | some c =>
    let late := !c.ended
    let frame := s.setFrame c.number late
    let s := (s.passOffset c).send frame
    let s := s.recordPrev
    { s with freeCount := s.freeCount + 7 }

/-! ## Arrivals and the reply deadline -/

/-- R35: the received address of a frame; a frame of fewer than three octets has none (log entry 8). -/
def State.receivedAddress (s : State) (bs : List Byte) : Byte :=
  if bs.length < 3 then Config.shortFrameAddress s.freeCount else bs.getD 1 0

/-- R26, R27, R35, R37, R39: an arrival is judged, logged and charged in the cycle `c` in progress; R28: whether it is the
GOOD that completes the awaited nodes. -/
def State.arrive (s : State) (c : Cycle) (bs : List Byte) : State × Bool :=
  let j := s.judge c bs
  let offset := s.clock - c.startAt
  let c' := (c.charge j.1 j.2 offset bs).logArrival (s.receivedAddress bs) j.1 offset
  let s := if bs.length < 3 then s.useFree else s
  let s := { s with lnk := { s.lnk with cycle := some c' } }
  let s := (s.afterVerdict j.2 j.1 c.number offset).settleTrip
  let completes := j.1 == .good && j.2.any (fun n => c'.awaited.contains n.address) && c'.complete
  (s, completes)

/-- R26, R28: a frame has been received now; outside a cycle it is not judged. -/
def State.replyEvent (s : State) (bs : List Byte) : State :=
  match s.lnk.cycle with
  | none => s
  | some c =>
    let r := s.arrive c bs
    if r.2 then r.1.computeStartDue else r.1

/-- R28: the reply deadline T_rd of the cycle in progress. -/
def State.replyDeadlineEvent (s : State) : State := s.computeStartDue

end Sys2Proof.Machine
end

