-- ==== Sys2Proof/Machine/OrderSteps.lean ====
section
/-! DEFINITION. What the owner of each order kind does with the TAKEN order (R24, R25, R40, R2 to R7, R15, R52, R136,
R143, R168). Each answers the state, the outcome and the result words; `t` is the TAKEN order. -/

namespace Sys2Proof.Machine

/-- R179: an owner's answer: the state after its effect, the outcome, the result words. -/
abbrev Answer := State × OrderOutcome × List Word

/-- The TAKEN order of a kind that was handed to its owner is answered and completes; without one nothing happens
(log entry 2). -/
def State.answerOrder (s : State) (kind : OrderKind) (owner : State → Taken → Answer) : State :=
  match s.handedOrder kind with
  | none => s
  | some t => State.completeWith (owner s t)

/-! ## Link orders -/

/-- R24, R25: LINK_CONFIGURE. -/
def answerLinkConfigure (s : State) (t : Taken) : Answer :=
  let offset := (t.arg 0).toNat
  if s.lnk.runState ≠ .halted then (s, .wrongState, [])
  else if !stagingOffsetOk offset linkRecordSize then (s, .badArgument, [0x01, 0])
  else match readLinkRecord s.cram offset with
    | .error results => (s, .badArgument, results)
    | .ok r => (s.linkStart r.1 (some r.2.1) r.2.2, .ok, [])

/-- R40: a RUN_STATE order is applied at once in HALTED, and else waits for the next cycle start. -/
def State.runStateOrder (s : State) (target : Target) : State :=
  match s.handedOrder (.runState target) with
  | none => s
  | some _ =>
    if s.lnk.runState = .halted then
      let r := s.applyRunState target
      r.1.complete r.2 []
    else s.setPhase .waiting

/-- R52: NODE_REJOIN. -/
def answerNodeRejoin (s : State) (t : Taken) : Answer :=
  match s.lnk.nodes.find? (fun n => n.address.toNat == (t.arg 0).toNat) with
  | none => (s, .badArgument, [0x07, 0])
  | some n =>
    if n.health ≠ .excluded then (s, .notExcluded, [])
    else
      let nodes := s.lnk.nodes.map (fun x =>
        if x.address = n.address ∧ x.health = .excluded then { x with health := .rejoining, clean := 0 } else x)
      (State.noteNode { s with lnk := { s.lnk with nodes := nodes } }, .ok, [])

/-! ## Schedule orders -/

/-- R2: LOAD_SCHEDULE: the copy starts; it ends after 40 µs. -/
def State.startCopy (s : State) : State :=
  match s.handedOrder .loadSchedule with
  | none => s
  | some t =>
    let offset := (t.arg 0).toNat
    let copy :=
      if stagingOffsetOk offset scheduleRecordSize then some (s.cram.readWords (stagingBase + offset) 184)
      else none
    s.setPhase (.copying (s.clock + Config.copyTime) copy)

/-- R6: the pending slot takes a schedule, and STU makes the switch test: the state and the switch progress reached. -/
def State.arm (s : State) (c : Schedule) : State × Nat :=
  let s := match s.stu.pending with
    | none => s
    | some old => s.dropFigures old.sched.serial
  let s := { s with stu := { s.stu with pending := some ⟨c, false⟩, nextSerial := s.stu.nextSerial + 1 } }
  let s := (s.addFigures c).switchTest
  (s, if s.stu.pending.isNone then 7 else s.switchProgress)

/-- R2 to R6: the copied record is checked and placed. -/
def answerLoadSchedule (s : State) (t : Taken) (copy : Option (List Word)) : Answer :=
  match copy with
  | none => (s, .badArgument, [0x01, 0])
  | some words =>
    match scheduleFault words (s.stu.active.map (·.sched.coilId)) with
    | some f => (s, .badArgument, [natWord f.1, natWord f.2])
    | none =>
      let c := readSchedule words s.stu.nextSerial
      match s.missingNode c.entries with
      | some m => (s, .nodeMissing, [natWord (standNumber m.1), natWord m.2.code])
      | none =>
        if s.stu.pending.isSome ∧ (t.arg 1).getLsbD 0 = false then (s, .pendingBusy, [])
        else if s.stu.pending.isSome ∧ s.switchProgress ≠ 0 then (s, .switchInProgress, [])
        else
          let r := s.arm c
          (r.1, .ok, [natWord r.2])

/-- R2: the 40 µs copy of the TAKEN LOAD_SCHEDULE has ended. -/
def State.copyEndEvent (s : State) : State :=
  match s.ord.taken with
  | none => s
  | some t =>
    match t.phase with
    | .copying _ copy => State.completeWith (answerLoadSchedule s t copy)
    | .handed => s
    | .waiting => s

/-- R7: CANCEL_PENDING. -/
def answerCancelPending (s : State) (_t : Taken) : Answer :=
  match s.stu.pending with
  | none => (s, .nothingToDo, [])
  | some h =>
    if s.switchProgress ≠ 0 then (s, .switchInProgress, [])
    else (State.dropFigures { s with stu := { s.stu with pending := none } } h.sched.serial, .ok, [])

/-! ## Stand orders -/

/-- R15: a SET_MODE is applied at once in HALTED, and else waits for the next compute start. -/
def State.setModeOrder (s : State) : State :=
  match s.handedOrder .setMode with
  | none => s
  | some t =>
    if s.lnk.runState = .halted then State.completeWith (s.applySetMode (t.arg 0) (t.arg 1))
    else s.setPhase .waiting

/-- R15: an OPERATOR_TRIM is applied at once in HALTED, and else waits for the next compute start. -/
def State.trimOrder (s : State) : State :=
  match s.handedOrder .operatorTrim with
  | none => s
  | some t =>
    if s.lnk.runState = .halted then State.completeWith (s.applyTrim (t.arg 0) (t.arg 1))
    else s.setPhase .waiting

/-! ## Trip reset, counters, pages -/

/-- R136, R137: TRIP_RESET. -/
def answerTripReset (s : State) (_t : Taken) : Answer :=
  if s.lnk.runState = .halted then (s, .wrongState, [])
  else match s.trp.present.firstCause with
    | some c => (s, .causePresent, [natWord c.code, natWord c.location])
    | none => if s.trp.latch then (s.tripCleared, .ok, []) else (s, .nothingToDo, [])

/-- 11.8: a group an order names. -/
def groupOf (w : Word) : Option EventGroup :=
  match w.toNat with
  | 0 => some .off
  | 1 => some .segment
  | 2 => some .link
  | 3 => some .gap
  | 4 => some .track
  | _ => none

/-- 11.8: an overflow action an order names. -/
def overflowOf (w : Word) : Option Overflow :=
  match w.toNat with
  | 0 => some .none
  | 1 => some .notice
  | 2 => some .trip
  | _ => none

/-- R143, 11.8: the subevent flags a group defines. -/
def EventGroup.defined : EventGroup → BitVec 8
  | .off => 0x00
  | .segment => 0x3F
  | .link => 0xFF
  | .gap => 0x1F
  | .track => 0x0F

/-- R144: a counter as the order programs it. -/
def programmed (t : Taken) (group : EventGroup) (action : Overflow) : Counter :=
  { group := group
    subevents := (t.arg 2).setWidth 8 &&& group.defined
    zones := (t.arg 3).setWidth 3
    stands := (t.arg 4).setWidth 7
    perCoil := (t.arg 5).getLsbD 0
    action := action
    preset := t.arg 7
    value := t.arg 7
    flag := false }

/-- R143, R144: COUNTER_PROGRAM. -/
def answerCounterProgram (s : State) (t : Taken) : Answer :=
  if h : (t.arg 0).toNat < 8 then
    match groupOf (t.arg 1), overflowOf (t.arg 6) with
    | none, _ => (s, .badArgument, [0x0E, 0])
    | some _, none => (s, .badArgument, [0x0F, 0])
    | some g, some a =>
      let n : Fin 8 := ⟨(t.arg 0).toNat, h⟩
      let old := s.evc.counters.get n
      ({ s with evc := { s.evc with counters := s.evc.counters.set n (programmed t g a) } }, .ok,
        [old.value, natWord (flagByte old.flag)])
  else (s, .badArgument, [0x0D, 0])

/-- R168: CLOSE_PAGE. -/
def answerClosePage (s : State) (_t : Taken) : Answer :=
  let p := s.rpt.current
  if !s.filling ∨ s.pageCount p = 0 then (s, .nothingToDo, [])
  else
    let seq := s.word (pageBase p + 0x04)
    let s := s.closeCurrent
    (s, .ok, [natWord p.val, seq, if s.filling then natWord s.rpt.current.val else noIndex])

/-! ## The handed order -/

/-- The owner of the order just handed over acts on it. -/
def State.ownerActs (s : State) : State :=
  match s.ord.taken with
  | none => s
  | some t =>
    match t.kind with
    | .linkConfigure => s.answerOrder .linkConfigure answerLinkConfigure
    | .runState target => s.runStateOrder target
    | .loadSchedule => s.startCopy
    | .cancelPending => s.answerOrder .cancelPending answerCancelPending
    | .setMode => s.setModeOrder
    | .operatorTrim => s.trimOrder
    | .nodeRejoin => s.answerOrder .nodeRejoin answerNodeRejoin
    | .tripReset => s.answerOrder .tripReset answerTripReset
    | .counterProgram => s.answerOrder .counterProgram answerCounterProgram
    | .closePage => s.answerOrder .closePage answerClosePage
    | .badKind _ => s
    | .badTarget => s

/-- An order just handed to its owner has yet to be acted on. -/
def State.orderHanded (s : State) : Bool := s.ord.taken.any (fun t => t.phase == .handed)

/-- R178: the order just handed to its owner is acted on, and so is each that ORD takes after it. The number bounds how
many. -/
def State.actOrders : Nat → State → State
  | 0, s => s
  | n + 1, s => if s.orderHanded then State.actOrders n s.ownerActs else s

end Sys2Proof.Machine
end

