-- ==== Sys2Proof/Machine/Resets.lean ====
section
/-! DEFINITION. Resets: their taking and their completion (R189, R140, R141, R158, R176). -/

namespace Sys2Proof.Machine

/-- R175, R158, 11.2: the addresses whose bytes a part reset keeps: the staging area and the report places. -/
def keptByPartReset (a : Nat) : Bool :=
  decide (stagingBase ≤ a ∧ a < stagingBase + stagingSize) ||
    decide (0x10000 ≤ a ∧ a < 0x20000 ∧ 0x40 ≤ a % 0x1000)

/-- R140: the cause a reset latches. -/
def ResetKind.cause : ResetKind → Cause
  | .powerOn => .powerOn
  | .part => .partReset

/-- R189: CRAM from the taking of a reset to its completion. -/
def ResetKind.cram : ResetKind → Memory → Memory
  | .powerOn, _ => []
  | .part, m => m.keep keptByPartReset

/-- R61: the next segment id a reset leaves. -/
def ResetKind.nextId : ResetKind → Half → Half
  | .powerOn, _ => 0
  | .part, n => n

/-- R189: a reset of a kind is taken: every block takes its reset values and everything in progress is abandoned. The
line TRIP_IN and the model's own fields stay (log entries 9, 10); `runBefore` is for the first-out (R140). -/
def State.takeReset (s : State) (kind : ResetKind) (runBefore : RunState) : State where
  pending := s.pending
  clock := s.clock
  freeCount := s.freeCount
  time := 0
  resetting := some ⟨kind, s.clock, runBefore⟩
  tripIn := s.tripIn
  tripOut := false
  ctrlCommanded := false
  news := { News.zero with trip := true }
  newsEn := News.zero
  irq := false
  irqSignals := s.irqSignals
  readData := s.readData
  cram := kind.cram s.cram
  hif := Hif.reset
  ord := OrderUnit.reset
  lnk := Lnk.reset
  linkOut := s.linkOut
  stu := { Stu.reset with nextSerial := s.stu.nextSerial }
  trk := Trk.reset (kind.nextId s.trk.nextId)
  gap := Gap.reset
  trp := Trp.reset kind.cause runBefore
  tripNumber := 0
  evc := Evc.reset
  rpt := Rpt.reset
  comp := none

/-- R189: power is applied. -/
def State.powerOn (s : State) : State := s.takeReset .powerOn .halted

/-- R189, R140: a part reset. -/
def State.partReset (s : State) : State := s.takeReset .part s.lnk.runState

/-- R189: a function-level reset: a part reset, or, while a reset is in progress, that reset again from its taking (log
entry 16). -/
def State.functionReset (s : State) : State :=
  match s.resetting with
  | none => s.partReset
  | some r => s.takeReset r.kind r.runBefore

/-- R141: TRP at the completion of a reset. -/
def Trp.atCompletion (t : Trp) (tripIn : Bool) : Trp :=
  if tripIn then t
  else { t with list := [(.external, 0)], present := { t.present with external := true } }

/-- R158: the header of page p after a reset. -/
def headerAfterReset (p : Nat) : List Word :=
  if p = 0 then [pageFilling, 1, 0, 0, noIndex] else [pageFree, 0, 0, 0, noIndex]

/-- R158: the sixteen page headers written at a reset's completion. -/
def Memory.resetPages (m : Memory) : Memory :=
  (List.range 16).foldl (fun m p => m.writeWords (0x10000 + 0x1000 * p) (headerAfterReset p)) m

/-- R189: the reset in progress completes. -/
def State.completeReset (s : State) : State :=
  match s.resetting with
  | none => s
  | some _ =>
    let s := { s with resetting := none, time := 0, tripNumber := 1, trp := s.trp.atCompletion s.tripIn }
    let s := { s with cram := s.cram.writeWords 0x00400 (tripWords 1 s.trp) }
    let s := { s with cram := s.cram.resetPages.writeWords armWordAt [armArmed, 0, 0, 0, 0] }
    s.statusWrite.putWords 0 directoryWords

end Sys2Proof.Machine
end

