-- ==== Sys2Proof/Machine/HostPort.lean ====
section
/-! DEFINITION. The Host Interface: host writes and reads of CRAM (R171 to R177, R182), the registers (10.4). -/

namespace Sys2Proof.Machine

/-! ## What a word of CRAM is (11.2) -/

/-- R172: the kinds of words of CRAM. -/
inductive WordKind where
  | partWritten
  | slotState (slot : Fin 32)
  | slotRequest (slot : Fin 32)
  | pageState (page : Fin 16)
  | armWord
  | staging
  | unpopulated
  deriving DecidableEq, Repr

/-- R172, 11.2, 11.3, 11.6: the kind of the aligned word at an offset. -/
def wordKind (a : Nat) : WordKind :=
  if a < 0x00100 then .partWritten
  else if a < 0x00200 then if a = armWordAt then .armWord else .partWritten
  else if a < 0x00400 then .unpopulated
  else if a < 0x00800 then .partWritten
  else if a < 0x01000 then .unpopulated
  else if a < 0x02000 then .partWritten
  else if a < 0x03000 then
    let slot := Fin.ofNat 32 ((a - 0x02000) / 0x80)
    if a % 0x80 = 0 then .slotState slot else if a % 0x80 < 0x40 then .slotRequest slot else .partWritten
  else if a < 0x08000 then .unpopulated
  else if a < 0x10000 then .staging
  else if a < 0x20000 then
    if a % 0x1000 = 0 then .pageState (Fin.ofNat 16 ((a - 0x10000) / 0x1000)) else .partWritten
  else .unpopulated

/-! ## Host writes of CRAM -/

/-- R174: a word is dropped. -/
def State.dropWord (s : State) (a : Nat) (reason : Violation) : State :=
  { s with hif := { s.hif with
      violations := satSucc s.hif.violations
      last := ⟨natWord a, reason, s.time⟩ } }

/-- R173, R177, R182: a full write of another value to a slot's state word. -/
def State.writeSlotState (s : State) (slot : Fin 32) (v : Word) : State :=
  let old := s.slotState slot
  if old = slotEmpty ∧ v = slotPosted then (s.putWord (slotBase slot) slotPosted).post slot
  else if (old = slotDone ∨ old = slotRefused) ∧ v = slotEmpty then s.putWord (slotBase slot) slotEmpty
  else s.dropWord (slotBase slot) .illegalTransition

/-- R173, R169: a full write of another value to a page's state word. -/
def State.writePageState (s : State) (page : Fin 16) (v : Word) : State :=
  if s.pageState page = pageFull ∧ v = pageFree then s.putWord (pageBase page) pageFree
  else s.dropWord (pageBase page) .illegalTransition

/-- R173, R38: a full write of another value to the capture arm word. -/
def State.writeArmWord (s : State) (v : Word) : State :=
  if s.armWord = armHeld ∧ v = armArmed then s.putWord armWordAt armArmed
  else s.dropWord armWordAt .illegalTransition

/-- R172, R173: a write of a guarded word: `full` holds the value of a full write. -/
def State.writeGuarded (s : State) (a : Nat) (full : Option Word) (transition : Word → State) : State :=
  match full with
  | none => s.dropWord a .subWord
  | some v => if v = s.word a then s else transition v

/-- R172: the bytes a write of `bytes` from `addr` on gives the word at `a`: the first address covered, and the bytes from
it on. -/
def coveredPart (addr : Nat) (bytes : List Byte) (a : Nat) : Nat × List Byte :=
  let lo := max addr a
  (lo, (bytes.drop (lo - addr)).take (a + 4 - lo))

/-- R172: the value of a full write of the word at `a`. -/
def fullValue (addr : Nat) (bytes : List Byte) (a : Nat) : Option Word :=
  match (coveredPart addr bytes a).2 with
  | [b0, b1, b2, b3] => some (bytesWord b0 b1 b2 b3)
  | _ => none

/-- R172: the bytes of a write that fall in the word at `a` are written. -/
def State.writePart (s : State) (addr : Nat) (bytes : List Byte) (a : Nat) : State :=
  { s with cram := s.cram.write (coveredPart addr bytes a).1 (coveredPart addr bytes a).2 }

/-- R172: one word of a host write is judged and written, dropped or ignored. -/
def State.hostWord (s : State) (addr : Nat) (bytes : List Byte) (a : Nat) : State :=
  let full := fullValue addr bytes a
  match wordKind a with
  | .unpopulated => s
  | .partWritten => s.dropWord a .partArea
  | .staging => s.writePart addr bytes a
  | .slotRequest slot =>
    if s.slotState slot = slotEmpty then s.writePart addr bytes a else s.dropWord a .bodyFrozen
  | .slotState slot => s.writeGuarded a full (s.writeSlotState slot)
  | .pageState page => s.writeGuarded a full (s.writePageState page)
  | .armWord => s.writeGuarded a full s.writeArmWord

/-- R172: the aligned words a write of `length` bytes from `addr` on touches, in increasing order. -/
def touchedWords (addr length : Nat) : List Nat :=
  if length = 0 then []
  else (List.range ((addr + length - 1) / 4 - addr / 4 + 1)).map (fun i => 4 * (addr / 4 + i))

/-- R172: the words of a host write, one after the other. An order that one of them posts and ORD takes is acted on before
the next word, so that no later word changes what its owner reads (R2, R175). -/
def State.hostWords (addr : Nat) (bytes : List Byte) : List Nat → State → State
  | [], s => s
  | [a], s => s.hostWord addr bytes a
  | a :: rest, s =>
    let s := s.hostWord addr bytes a
    State.hostWords addr bytes rest
      (match wordKind a with
       | .slotState _ => s.actOrders 64
       | _ => s)

/-- R172: a host write, word by word; ignored while a reset is in progress (R189). -/
def State.hostWrite (s : State) (addr : Nat) (bytes : List Byte) : State :=
  if s.resetting.isSome then s else State.hostWords addr bytes (touchedWords addr bytes.length) s

/-! ## Registers -/

/-- R186, R119: a full write of CTRL. -/
def State.ctrlWrite (s : State) (value : Word) : State :=
  if s.resetting.isSome then s
  else if value.getLsbD 0 then s.partReset
  else
    let b := value.getLsbD 1
    if b = s.ctrlCommanded then s
    else (State.setCommanded { s with ctrlCommanded := b } b).settleTrip

/-- R185, R188: a full write of NEWS_EN. -/
def State.newsEnWrite (s : State) (value : Word) : State :=
  if s.resetting.isSome then s else State.followIrq { s with newsEn := News.ofWord value }

/-- R185: a register write of any size at any register offset. -/
def State.registerWrite (s : State) (offset : Nat) (bytes : List Byte) : State :=
  match bytes with
  | [b0, b1, b2, b3] =>
    if offset = 0x04 then s.ctrlWrite (bytesWord b0 b1 b2 b3)
    else if offset = 0x0C then s.newsEnWrite (bytesWord b0 b1 b2 b3)
    else s
  | _ => s

/-- 10.4: the value of NEWS after either reset, TRIP alone. -/
def News.reset : News := { News.zero with trip := true }

/-- R187, R189: what NEWS reads; while a reset is in progress it reads its reset value. -/
def State.newsShown (s : State) : Word := if s.resetting.isSome then News.reset.word else s.news.word

/-- R187: a read of `count` bytes of NEWS from byte `first` on; during a reset it clears nothing. -/
def State.newsRead (s : State) (first count : Nat) : State :=
  let seen := coveredBytes s.newsShown first count
  let s := { s with readData := seen }
  if s.resetting.isSome then s else s.withNews (s.news.afterRead seen)

/-- R185, R189: the whole value of the register whose first byte is at `offset`; an offset the register table does not show
reads 0, and during a reset every register reads its reset value. -/
def State.registerWord (s : State) (offset : Nat) : Word :=
  if offset = 0x00 then natWord (Config.partCode * 65536 + Config.revision)
  else if offset = 0x08 then s.newsShown
  else if s.resetting.isSome then 0
  else if offset = 0x04 then (if s.ctrlCommanded then 2 else 0)
  else if offset = 0x0C then s.newsEn.word
  else if offset = 0x10 then s.time
  else 0

/-- R185: the byte a register read returns at an offset: the byte of the register that covers it. -/
def State.registerByte (s : State) (offset : Nat) : Byte :=
  (s.registerWord (offset / 4 * 4)).extractLsb' (8 * (offset % 4)) 8

/-- R185: what a register read of `count` bytes from `offset` on returns, first byte first; a read that covers bytes of
NEWS clears besides (State.newsRead). -/
def State.readRegister (s : State) (offset count : Nat) : List Byte :=
  (List.range count).map (fun i => s.registerByte (offset + i))

/-- R171, R189: what a host read of a byte of CRAM returns. -/
def State.hostRead (s : State) (a : Nat) : Byte := if s.resetting.isSome then 0 else s.cram.read a

/-! ## The line TRIP_IN (R118) -/

/-- R118: TRIP_IN takes a level; a change is taken at once, but for a reset in progress (R141). -/
def State.setTripIn (s : State) (high : Bool) : State :=
  let changed := s.tripIn != high
  let s := { s with tripIn := high }
  if s.resetting.isSome || !changed then s else (s.setExternal (!high)).settleTrip

end Sys2Proof.Machine
end

