-- ==== Sys2Proof/Machine/Run.lean ====
section
/-! DEFINITION. What the part does of itself as time passes: the steps that are due, when, and the passing of time (log
entries 1 to 3). -/

namespace Sys2Proof.Machine

/-- The steps the part takes of itself. -/
inductive Due where
  | order | computeEnd | copyEnd | replyDeadline | commandOffset | cycleStart | resetCompletion
  deriving DecidableEq, Repr

/-- In which order the steps due at one moment are taken when nothing else decides it (log entry 2). -/
def dueOrder : List Due :=
  [.order, .computeEnd, .copyEnd, .replyDeadline, .commandOffset, .cycleStart, .resetCompletion]

/-- T_cyc, T_rd or T_cmd after the start of the cycle in progress, when `p` holds of that cycle. -/
def State.cycleMoment (s : State) (p : Cycle → Bool) (offset : Timing → Nat) : Option Nat :=
  match s.lnk.cycle, s.lnk.timing with
  | some c, some t => if p c then some (c.startAt + offset t) else none
  | _, _ => none

/-- The moment at which a step is due: an order handed to its owner at once (R178), a compute end (R31), a copy end
(R2), T_rd (R28), T_cmd (R32), the next cycle start (R22), a reset completion at its latest (R189). -/
def State.dueAt (s : State) : Due → Option Nat
  | .order => if s.orderHanded then some s.clock else none
  | .computeEnd => s.comp.map (·.endAt)
  | .copyEnd => s.ord.taken.bind (fun t =>
      match t.phase with
      | .copying e _ => some e
      | .handed => none
      | .waiting => none)
  | .replyDeadline => s.cycleMoment (fun c => !c.due && !c.started) (·.rd)
  | .commandOffset => s.cycleMoment (fun c => !c.offsetPassed) (·.cmd)
  | .cycleStart => s.cycleMoment (fun _ => true) (·.cyc)
  | .resetCompletion => s.resetting.map (fun r => r.takenAt + Config.resetTime)

/-- A step the part takes of itself. -/
def State.fire (s : State) : Due → State
  | .order => s.ownerActs
  | .computeEnd => s.computeEndEvent
  | .copyEnd => s.copyEndEvent
  | .replyDeadline => s.replyDeadlineEvent
  | .commandOffset => s.commandOffsetEvent
  | .cycleStart => s.cycleStartEvent
  | .resetCompletion => s.completeReset

/-- The earlier of two due steps, the first on a tie. -/
def earlier (a b : Option (Due × Nat)) : Option (Due × Nat) :=
  match a, b with
  | none, b => b
  | a, none => a
  | some x, some y => if y.2 < x.2 then some y else some x

/-- The step due first, and its moment. -/
def State.nextDue (s : State) : Option (Due × Nat) :=
  dueOrder.foldl (fun best d => earlier best ((s.dueAt d).map (fun t => (d, t)))) none

/-- R178: an order step is taken as soon as it is due, at the moment of the taking itself; any other step due at the
moment `target` is left to what comes at that moment (log entry 2). -/
def takenBefore (target : Nat) (d : Due × Nat) : Bool := decide (d.2 < target) || d.1 == .order

/-- Time passes up to the moment `target`: every step due before it is taken at its moment, and so is an order handed to
its owner at `target` itself. The number bounds how many (log entry 1). -/
def runTo : Nat → Nat → State → State
  | 0, target, s => s.passTo target
  | n + 1, target, s =>
    match s.nextDue with
    | none => s.passTo target
    | some d => if takenBefore target d then runTo n target ((s.passTo d.2).fire d.1) else s.passTo target

/-- `dt` microseconds pass (log entry 1). -/
def State.elapse (s : State) (dt : Nat) : State := runTo (64 * dt + 64) (s.clock + dt) s

/-- The step is due now. -/
def State.isDue (s : State) (d : Due) : Bool := (s.dueAt d).any (fun t => decide (t ≤ s.clock))

/-- R22, R35: a cycle start due now comes before anything received now, so that an arrival's offset stays below T_cyc. -/
def State.intoCycle (s : State) : State := if s.isDue .cycleStart then s.fire .cycleStart else s

/-- R26: a frame has been received now, in the cycle this moment belongs to; none is judged while a reset is in
progress (R45). -/
def State.receive (s : State) (bs : List Byte) : State :=
  if s.resetting.isSome then s else s.intoCycle.replyEvent bs

/-- The command that is a step the part takes of itself: time passes up to the moment of the step, which is then taken;
nothing happens when no such step is ahead (log entry 2). -/
def State.takeDue (s : State) (d : Due) : State :=
  match s.dueAt d with
  | none => s
  | some t =>
    let s := s.elapse (t - s.clock)
    if s.isDue d then s.fire d else s

end Sys2Proof.Machine
end

