-- ==== Sys2Proof/Machine/HostCommands.lean ====
section
/-! DEFINITION. The commands of the host: registers and CRAM (R119, R172, R185 to R188). -/

namespace Sys2Proof.Machine

/-- COMMANDED (R186, R119): after `dt` µs the host writes CTRL whole, with PART_RESET 0. -/
def execCommanded (dt : Nat) (value : Word) (s : State) : Host.Outcome State Fault Refusal :=
  .next ((s.elapse dt).ctrlWrite value)

/-- NEWS_READ (R187): after `dt` µs the host reads `count` bytes of NEWS from byte `first` on. -/
def execNewsRead (dt first count : Nat) (s : State) : Host.Outcome State Fault Refusal :=
  .next ((s.elapse dt).newsRead first count)

/-- NEWS_EN_WRITE (R188): after `dt` µs the host writes NEWS_EN whole. -/
def execNewsEnWrite (dt : Nat) (value : Word) (s : State) : Host.Outcome State Fault Refusal :=
  .next ((s.elapse dt).newsEnWrite value)

/-- IGNORED_REGISTER_WRITE (R185): after `dt` µs the host makes a register write of no effect. -/
def execIgnoredRegisterWrite (dt offset : Nat) (bytes : List Byte) (s : State) :
    Host.Outcome State Fault Refusal :=
  .next ((s.elapse dt).registerWrite offset bytes)

/-- HOST_CRAM_WRITE (R172): after `dt` µs the host writes bytes to CRAM; a write that does not lie inside the window
faults (log entry 6). -/
def execHostCramWrite (dt addr : Nat) (bytes : List Byte) (s : State) : Host.Outcome State Fault Refusal :=
  if addr + bytes.length ≤ Config.cramSize then .next ((s.elapse dt).hostWrite addr bytes)
  else .fault .outsideWindow

end Sys2Proof.Machine
end

