-- ==== Sys2Proof/Machine/LineCommands.lean ====
section
/-! DEFINITION. The commands of the line TRIP_IN (R118). -/

namespace Sys2Proof.Machine

/-- TRIP_IN_LOW (R118): after `dt` µs TRIP_IN goes low. -/
def execTripInLow (dt : Nat) (s : State) : Host.Outcome State Fault Refusal := .next ((s.elapse dt).setTripIn false)

/-- TRIP_IN_HIGH (R118): after `dt` µs TRIP_IN goes high. -/
def execTripInHigh (dt : Nat) (s : State) : Host.Outcome State Fault Refusal := .next ((s.elapse dt).setTripIn true)

end Sys2Proof.Machine
end

