-- ==== Sys2Proof/Machine/LinkCommands.lean ====
section
/-! DEFINITION. The commands of the stand link: the moments of a cycle, and a frame that arrives (R22, R26, R28, R31, R32). -/

namespace Sys2Proof.Machine

/-- CYCLE_START (R22, R23): time passes up to the next cycle start, which comes. -/
def execCycleStart (s : State) : Host.Outcome State Fault Refusal := .next (s.takeDue .cycleStart)

/-- REPLY (R26, R35): after `dt` µs the last octet of a frame is received; a cycle start due at that moment comes
first. -/
def execReply (dt : Nat) (octets : List Byte) (s : State) : Host.Outcome State Fault Refusal :=
  .next ((s.elapse dt).receive octets)

/-- REPLY_DEADLINE (R28): time passes up to T_rd of the cycle in progress, which comes. -/
def execReplyDeadline (s : State) : Host.Outcome State Fault Refusal := .next (s.takeDue .replyDeadline)

/-- COMPUTE_END (R31): time passes up to the end of the computation in progress, which comes. -/
def execComputeEnd (s : State) : Host.Outcome State Fault Refusal := .next (s.takeDue .computeEnd)

/-- COMMAND_OFFSET (R32): time passes up to T_cmd of the cycle in progress, which comes. -/
def execCommandOffset (s : State) : Host.Outcome State Fault Refusal := .next (s.takeDue .commandOffset)

end Sys2Proof.Machine
end

