-- ==== Sys2Proof/Machine/OrderCommands.lean ====
section
/-! DEFINITION. The commands of the orders: the step in which an owner acts on the TAKEN order of its kind (R178; log entry 2). -/

namespace Sys2Proof.Machine

/-- LINK_CONFIGURE (R24, R25). -/
def execLinkConfigure (s : State) : Host.Outcome State Fault Refusal :=
  .next (s.answerOrder .linkConfigure answerLinkConfigure)

/-- RUN_STATE READY (R40, R41). -/
def execRunStateReady (s : State) : Host.Outcome State Fault Refusal := .next (s.runStateOrder .ready)

/-- RUN_STATE RUN (R40, R42). -/
def execRunStateRun (s : State) : Host.Outcome State Fault Refusal := .next (s.runStateOrder .run)

/-- RUN_STATE HALT (R40, R43). -/
def execRunStateHalt (s : State) : Host.Outcome State Fault Refusal := .next (s.runStateOrder .halt)

/-- LOAD_SCHEDULE (R2): the copy starts. -/
def execLoadSchedule (s : State) : Host.Outcome State Fault Refusal := .next s.startCopy

/-- SCHEDULE_COPY_END (R2 to R6): time passes up to the end of the copy, which is checked and placed. -/
def execScheduleCopyEnd (s : State) : Host.Outcome State Fault Refusal := .next (s.takeDue .copyEnd)

/-- CANCEL_PENDING (R7). -/
def execCancelPending (s : State) : Host.Outcome State Fault Refusal :=
  .next (s.answerOrder .cancelPending answerCancelPending)

/-- SET_MODE (R15, R16). -/
def execSetMode (s : State) : Host.Outcome State Fault Refusal := .next s.setModeOrder

/-- OPERATOR_TRIM (R15, R21). -/
def execOperatorTrim (s : State) : Host.Outcome State Fault Refusal := .next s.trimOrder

/-- NODE_REJOIN (R52). -/
def execNodeRejoin (s : State) : Host.Outcome State Fault Refusal :=
  .next (s.answerOrder .nodeRejoin answerNodeRejoin)

/-- TRIP_RESET (R136, R137). -/
def execTripReset (s : State) : Host.Outcome State Fault Refusal :=
  .next (s.answerOrder .tripReset answerTripReset)

/-- COUNTER_PROGRAM (R143, R144). -/
def execCounterProgram (s : State) : Host.Outcome State Fault Refusal :=
  .next (s.answerOrder .counterProgram answerCounterProgram)

/-- CLOSE_PAGE (R168). -/
def execClosePage (s : State) : Host.Outcome State Fault Refusal :=
  .next (s.answerOrder .closePage answerClosePage)

end Sys2Proof.Machine
end

