-- ==== Sys2Proof/Machine/ResetCommands.lean ====
section
/-! DEFINITION. The commands of the resets (R186, R189). -/

namespace Sys2Proof.Machine

/-- POWER_ON_RESET (R189): after `dt` µs power is applied. -/
def execPowerOnReset (dt : Nat) (s : State) : Host.Outcome State Fault Refusal := .next (s.elapse dt).powerOn

/-- PART_RESET (R186, R189): after `dt` µs the host writes CTRL whole, with PART_RESET 1. -/
def execPartReset (dt : Nat) (value : Word) (s : State) : Host.Outcome State Fault Refusal :=
  .next ((s.elapse dt).ctrlWrite value)

/-- FUNCTION_LEVEL_RESET (R189): after `dt` µs the PCIe function is reset. -/
def execFunctionLevelReset (dt : Nat) (s : State) : Host.Outcome State Fault Refusal :=
  .next (s.elapse dt).functionReset

/-- RESET_COMPLETION (R189): after `dt` µs the reset in progress completes. -/
def execResetCompletion (dt : Nat) (s : State) : Host.Outcome State Fault Refusal :=
  .next (s.elapse dt).completeReset

end Sys2Proof.Machine
end

