-- ==== Sys2Proof/Machine/Dispatch.lean ====
section
/-! DEFINITION. Each command to its meaning. -/

namespace Sys2Proof.Machine

def exec (i : Instr) (s : State) : Host.Outcome State Fault Refusal :=
  match i with
  | .powerOnReset dt => Sys2Proof.Machine.execPowerOnReset dt s
  | .partReset dt value => Sys2Proof.Machine.execPartReset dt value s
  | .functionLevelReset dt => Sys2Proof.Machine.execFunctionLevelReset dt s
  | .resetCompletion dt => Sys2Proof.Machine.execResetCompletion dt s
  | .commanded dt value => Sys2Proof.Machine.execCommanded dt value s
  | .newsRead dt first count => Sys2Proof.Machine.execNewsRead dt first count s
  | .newsEnWrite dt value => Sys2Proof.Machine.execNewsEnWrite dt value s
  | .ignoredRegisterWrite dt offset bytes => Sys2Proof.Machine.execIgnoredRegisterWrite dt offset bytes s
  | .hostCramWrite dt addr bytes => Sys2Proof.Machine.execHostCramWrite dt addr bytes s
  | .linkConfigure => Sys2Proof.Machine.execLinkConfigure s
  | .runStateReady => Sys2Proof.Machine.execRunStateReady s
  | .runStateRun => Sys2Proof.Machine.execRunStateRun s
  | .runStateHalt => Sys2Proof.Machine.execRunStateHalt s
  | .loadSchedule => Sys2Proof.Machine.execLoadSchedule s
  | .scheduleCopyEnd => Sys2Proof.Machine.execScheduleCopyEnd s
  | .cancelPending => Sys2Proof.Machine.execCancelPending s
  | .setMode => Sys2Proof.Machine.execSetMode s
  | .operatorTrim => Sys2Proof.Machine.execOperatorTrim s
  | .nodeRejoin => Sys2Proof.Machine.execNodeRejoin s
  | .tripReset => Sys2Proof.Machine.execTripReset s
  | .counterProgram => Sys2Proof.Machine.execCounterProgram s
  | .closePage => Sys2Proof.Machine.execClosePage s
  | .cycleStart => Sys2Proof.Machine.execCycleStart s
  | .reply dt octets => Sys2Proof.Machine.execReply dt octets s
  | .replyDeadline => Sys2Proof.Machine.execReplyDeadline s
  | .computeEnd => Sys2Proof.Machine.execComputeEnd s
  | .commandOffset => Sys2Proof.Machine.execCommandOffset s
  | .tripInLow dt => Sys2Proof.Machine.execTripInLow dt s
  | .tripInHigh dt => Sys2Proof.Machine.execTripInHigh dt s

end Sys2Proof.Machine
end

