-- ==== Sys2Proof/Safety.lean ====
section
/-! DEFINITION. What counts as a sound state of the TS7: the laws the manual states of the whole machine, as predicates
on State. -/

namespace Sys2Proof.Safety

open Sys2Proof.Machine

/-- R171: CRAM is in its canonical form. -/
def MemoryLaw (s : State) : Prop := s.cram.wf

/-- R131: TRIP_OUT is energized exactly while the latch is clear, and NEWS.TRIP mirrors the latch. -/
def LatchLaw (s : State) : Prop := s.news.trip = s.trp.latch ∧ s.tripOut = !s.trp.latch

/-- R188: the interrupt request is active while NEWS and NEWS_EN have a bit set in common, and inactive otherwise. -/
def IrqLaw (s : State) : Prop := s.irq = s.news.meets s.newsEn

/-- 2.9, R22, R189: the run state HALTED implies that the latch is set and that no cycle is in progress; RUN implies that
the latch is clear and the active slot holds a schedule; while a reset is in progress the run state is HALTED, no order
is queued or TAKEN, and no computation is in progress. -/
def RunLaw (s : State) : Prop :=
  (s.resetting ≠ none → s.lnk.runState = .halted ∧ s.ord = ⟨[], none⟩ ∧ s.comp = none) ∧
  (s.lnk.runState = .halted → s.trp.latch = true ∧ s.lnk.cycle = none) ∧
  (s.lnk.runState = .run → s.trp.latch = false ∧ s.stu.active.isSome = true)

/-- R70: the segment table holds at most 128 segments, and their ids, oldest first, count up to the next id. -/
def TableLaw (s : State) : Prop :=
  s.trk.segs.length ≤ Config.tableSize ∧
  s.trk.segs.map (·.id) =
    (List.range s.trk.segs.length).map (fun i => s.trk.nextId - BitVec.ofNat 16 (s.trk.segs.length - i))

/-- R83: every segment created is in the table, reported, or lost; the counts are modulo 2³². -/
def ConservationLaw (s : State) : Prop :=
  s.trk.created = BitVec.ofNat 32 s.trk.segs.length + s.rpt.reported + s.rpt.lost

/-- R76, R77: in LOST and in IDLE the table is empty and no creation record is open. -/
def TrackingLaw (s : State) : Prop :=
  (s.trk.state = .lost ∨ s.trk.state = .idle) → s.trk.segs = [] ∧ s.trk.creation = none

/-- R113: MI stays within ±MI_max of the active schedule, and is 0 while the active slot is empty. -/
def MonitorLaw (s : State) : Prop :=
  match s.stu.active with
  | none => s.gap.mi = 0
  | some h => s.gap.mi.natAbs ≤ h.sched.miMax

/-- R47 to R49, R52, R53: E, the clean-cycle count and the health state of a node agree. -/
def NodeOk (warn : Nat) (n : Node) : Prop :=
  n.errors ≤ 255 ∧ n.clean < Config.cleanCycles ∧
  match n.health with
  | .active => n.errors < warn ∧ n.clean = 0
  | .warned => warn ≤ n.errors ∧ n.errors ≤ 127 ∧ n.clean = 0
  | .degraded => 128 ≤ n.errors ∧ n.clean = 0
  | .excluded => n.errors = 255 ∧ n.clean = 0
  | .rejoining => n.errors = 255

/-- R45, R24: W lies in 1 to 127; every node of the table is as its health state says. -/
def NodeLaw (s : State) : Prop :=
  (1 ≤ s.lnk.warn ∧ s.lnk.warn ≤ 127) ∧ ∀ n ∈ s.lnk.nodes, NodeOk s.lnk.warn n

/-- R177, R178: a slot is in the posting queue exactly when it is POSTED, at most once; ORD is idle only with an empty
queue; the TAKEN slot is the one ORD carries out. -/
def OrderLaw (s : State) : Prop :=
  s.ord.queue.Nodup ∧ (∀ i, i ∈ s.ord.queue ↔ s.slotState i = slotPosted) ∧
  (s.ord.taken = none → s.ord.queue = []) ∧
  ∀ i, s.slotState i = slotTaken ↔ s.ord.taken.map (·.slot) = some i

/-- R117 to R120, R55, R141: each level cause stands in the set while its condition holds, EXTERNAL not during a reset;
the silence count is 0 in HALTED, and a clear latch never stands beside a present cause. -/
def LevelLaw (s : State) : Prop :=
  s.trp.present.external = (s.resetting.isNone && !s.tripIn) ∧
  s.trp.present.commanded = s.ctrlCommanded ∧
  s.trp.present.linkSilent = decide (s.lnk.silence = 3) ∧
  (s.lnk.runState = .halted → s.lnk.silence = 0) ∧
  (s.trp.latch = false → s.trp.present.firstCause = none)

/-- R76, R130: outside a computation no trip owes a flush. -/
def FlushLaw (s : State) : Prop := s.comp = none → s.trk.tripFlush = false

/-- R135, R183: but for a reset in progress, both stamps of the status area and of the trip record are whole. -/
def StampLaw (s : State) : Prop :=
  s.resetting = none →
    s.word 0x01000 = s.hif.statusNumber ∧ s.word 0x01004 = s.hif.statusNumber ∧
    s.word 0x00400 = s.tripNumber ∧ s.word 0x00404 = s.tripNumber

/-- 10.2: slot `i` shows a state word, an outcome code and result words, missing ones 0. -/
def SlotShows (s : State) (i : Fin 32) (state : Word) (outcome : OrderOutcome) (results : List Word) : Prop :=
  s.slotState i = state ∧ s.word (slotBase i + 0x40) = outcome.code ∧
  ∀ j, j < 15 → s.word (slotBase i + 0x44 + 4 * j) = results.getD j 0

/-- Log entry 2: no step of the part's own is overdue. -/
def Timely (s : State) : Prop := ∀ d t, s.dueAt d = some t → s.clock ≤ t

/-- Log entry 2: besides, no order handed to its owner still waits to be acted on. -/
def Settled (s : State) : Prop := Timely s ∧ s.dueAt .order = none

end Sys2Proof.Safety
end

