-- ==== Sys2Proof/WellFormed.lean ====
section
/-! DEFINITION. Which commands are well formed: each operand as the command's row and rule describe it. -/

namespace Sys2Proof

/-- R185: the register write at `offset` of `length` bytes is one that is ignored: it is not a full write of CTRL
(0x04) or of NEWS_EN (0x0C). -/
def ignoredWrite (offset length : Nat) : Bool :=
  !((offset == 0x04 || offset == 0x0C) && length == 4)

/-- A command of the table with operands its row allows. -/
def WellFormed : Instr → Bool
  | .powerOnReset _ => true
  | .partReset _ value => value.getLsbD 0
  | .functionLevelReset _ => true
  | .resetCompletion dt => decide (dt ≤ Config.resetTime)
  | .commanded _ value => !value.getLsbD 0
  | .newsRead _ first count => decide (0 < count ∧ first + count ≤ 4)
  | .newsEnWrite _ _ => true
  | .ignoredRegisterWrite _ offset bytes => ignoredWrite offset bytes.length && !bytes.isEmpty
  | .hostCramWrite _ addr bytes => decide (addr + bytes.length ≤ Config.cramSize) && !bytes.isEmpty
  | .linkConfigure => true
  | .runStateReady => true
  | .runStateRun => true
  | .runStateHalt => true
  | .loadSchedule => true
  | .scheduleCopyEnd => true
  | .cancelPending => true
  | .setMode => true
  | .operatorTrim => true
  | .nodeRejoin => true
  | .tripReset => true
  | .counterProgram => true
  | .closePage => true
  | .cycleStart => true
  | .reply _ octets => !octets.isEmpty
  | .replyDeadline => true
  | .computeEnd => true
  | .commandOffset => true
  | .tripInLow _ => true
  | .tripInHigh _ => true

end Sys2Proof
end

