-- ==== Sys2Proof/Certificates/Slice0/Obligations.lean ====
section
/-! DEFINITION. The statements for the provers. -/

open Sys2Proof Sys2Proof.Machine Sys2Proof.Safety

/-! ## The machine -/

/-- The queue is first in, first out: the command in front runs on the state with the queue's rest. -/
def Obligations.StepRunsFrontCommand : Prop :=
  ∀ (c : Instr) (rest : List Instr) (s : State),
    step { s with pending := c :: rest } = exec c { s with pending := rest }

/-- No command touches the queue or turns the clock back; on an empty queue one µs passes (the model's choice, log
entry 1); and every command answers a next state but a host write that leaves the CRAM window, which faults (the model's
choice, log entry 6). -/
def Obligations.CommandsKeepQueueAndComplete : Prop :=
  (∀ (c : Instr) (s t : State), exec c s = .next t → t.pending = s.pending ∧ s.clock ≤ t.clock) ∧
  (∀ (s : State), s.pending = [] →
    ∃ t, step s = .next t ∧ t.pending = [] ∧ t.clock = s.clock + 1) ∧
  ∀ (c : Instr) (s : State),
    (∃ t, exec c s = .next t) ∨
    ∃ dt addr bytes, c = .hostCramWrite dt addr bytes ∧ Config.cramSize < addr + bytes.length ∧
      exec c s = .fault .outsideWindow

/-! ## Resets -/

/-- R189, R140, R45, R61, R84, R142, R158: what a power-on reset leaves at its taking, `u` being the state at that moment.
R186, R175: a part reset, by CTRL or by a function-level reset, leaves the same but for its first-out, the next segment id,
the staging area and the report places. That the record of frames sent is kept is the model's (log entry 9). -/
def Obligations.ResetsTaken : Prop :=
  (∀ (dt : Nat) (s : State), let u := s.elapse dt
    ∃ t, exec (.powerOnReset dt) s = .next t ∧
      t.resetting = some ⟨.powerOn, u.clock, .halted⟩ ∧ t.time = 0 ∧ t.tripOut = false ∧
      t.ctrlCommanded = false ∧ t.news = ⟨false, false, true, false, false, false, false⟩ ∧
      t.newsEn = ⟨false, false, false, false, false, false, false⟩ ∧ t.irq = false ∧ t.cram = [] ∧
      t.hif = ⟨0, ⟨0, .none, 0⟩, 0⟩ ∧ t.ord = ⟨[], none⟩ ∧
      t.lnk = ⟨.halted, [], none, 96, 0, none, [], [], false, 0⟩ ∧
      (∀ k, t.stand k = ⟨.none, .empty, 0, .position, .position, 0, 0, 0⟩) ∧
      t.stu.active = none ∧ t.stu.pending = none ∧
      t.trk.state = .idle ∧ t.trk.segs = [] ∧ t.trk.creation = none ∧ (∀ k, t.trk.q.get k = 0) ∧
      t.trk.qGauge = 0 ∧ t.trk.gaugeSpeed = 0 ∧ (∀ k, t.trk.windows.get k = none) ∧ t.trk.nextId = 0 ∧
      t.trk.created = 0 ∧
      (∀ k, t.gapStand k = ⟨0, none, none, none, 0, ⟨none, none, none, none, none, none⟩, none, false⟩) ∧
      t.gap.mi = 0 ∧ t.gap.figures = [] ∧ t.gap.last = none ∧
      t.trp.latch = true ∧ t.trp.firstOut = some ⟨.powerOn, 0, 0, .halted, none⟩ ∧ t.trp.list = [] ∧
      t.trp.unlisted = 0 ∧ t.trp.armed = false ∧ (∀ k, t.trp.feed.get k = none) ∧
      t.trp.present.firstCause = none ∧
      (∀ n, t.evc.counters.get n = ⟨.off, 0, 0, 0, false, .none, 0, 0, false⟩) ∧ t.evc.lastCoil = none ∧
      t.rpt = ⟨0, 1, 0, 0, 0⟩ ∧ t.comp = none ∧
      t.tripIn = u.tripIn ∧ t.clock = u.clock ∧ t.linkOut = u.linkOut) ∧
  ∀ (dt : Nat) (v : Word) (s : State), let u := s.elapse dt
    u.resetting = none → v.getLsbD 0 = true →
    ∃ t p, exec (.partReset dt v) s = .next t ∧ exec (.functionLevelReset dt) s = .next t ∧
      exec (.powerOnReset dt) s = .next p ∧
      t = { p with
        resetting := some ⟨.part, u.clock, u.lnk.runState⟩
        cram := t.cram
        trk := { p.trk with nextId := u.trk.nextId }
        trp := { p.trp with firstOut := some ⟨.partReset, 0, 0, u.lnk.runState, none⟩ } } ∧
      ∀ a, t.cram.read a =
        if (0x08000 ≤ a ∧ a < 0x10000) ∨ (0x10000 ≤ a ∧ a < 0x20000 ∧ 0x40 ≤ a % 0x1000) then u.cram.read a
        else 0

/-- R189, R187: while a reset is in progress host writes change nothing, a read of NEWS finds its reset value, TRIP alone,
and clears nothing (the model's inference, log entry 9), CRAM reads zero, TRIP_IN is only followed, and a function-level
reset starts the reset again (its kind and recorded run state kept: the model's choice, log entry 16). -/
def Obligations.ResetInProgressIgnoresTheHost : Prop :=
  ∀ (dt : Nat) (s : State) (r : ResetInProgress), let u := s.elapse dt
    u.resetting = some r →
    (∀ v, exec (.commanded dt v) s = .next u) ∧ (∀ v, exec (.partReset dt v) s = .next u) ∧
    (∀ v, exec (.newsEnWrite dt v) s = .next u) ∧
    (∀ addr bytes, addr + bytes.length ≤ 0x40000 → exec (.hostCramWrite dt addr bytes) s = .next u) ∧
    (∀ bs, exec (.reply dt bs) s = .next u) ∧
    (exec (.newsRead dt 0 4) s = .next { u with readData := 4 }) ∧
    (∀ a, u.hostRead a = 0) ∧
    (exec (.tripInLow dt) s = .next { u with tripIn := false }) ∧
    (exec (.tripInHigh dt) s = .next { u with tripIn := true }) ∧
    ∃ t, exec (.functionLevelReset dt) s = .next t ∧
      t.resetting = some ⟨r.kind, u.clock, r.runBefore⟩ ∧ t.trp.firstOut = some ⟨r.kind.cause, 0, 0, r.runBefore, none⟩

/-- R189, R141, R158, R38, R176, R183, R135: what the completion of a reset writes. That the sender chooses its moment is
the model's (log entry 3), and that the trip record's first write carries m = 1 its inference (log entry 16). -/
def Obligations.ResetCompletionWrites : Prop :=
  ∀ (dt : Nat) (s : State) (r : ResetInProgress), let u := s.elapse dt
    u.resetting = some r →
    ∃ t, exec (.resetCompletion dt) s = .next t ∧
      t.resetting = none ∧ t.time = 0 ∧ t.tripNumber = 1 ∧ t.hif.statusNumber = u.hif.statusNumber + 1 ∧
      (u.tripIn = true → t.trp = u.trp) ∧
      (u.tripIn = false → t.trp.list = [(.external, 0)] ∧ t.trp.present.external = true ∧
        t.trp.firstOut = u.trp.firstOut ∧ t.trp.latch = u.trp.latch) ∧
      t.cram.readWords 0x00400 65 = tripWords 1 t.trp ∧
      t.word 0x00000 = 0x7C5A ∧ t.word 0x00004 = 1 ∧ t.word 0x00008 = 0x40000 ∧
      t.word 0x00100 = 1 ∧ (∀ i, i < 4 → t.word (0x00104 + 4 * i) = 0) ∧
      t.cram.readWords 0x01000 564 = statusWords t t.hif.statusNumber ∧
      t.word 0x01000 = t.hif.statusNumber ∧ t.word 0x01004 = t.hif.statusNumber ∧
      (∀ p : Fin 16, t.word (pageBase p) = (if p = 0 then 1 else 0) ∧
        t.word (pageBase p + 0x04) = (if p = 0 then 1 else 0) ∧ t.word (pageBase p + 0x08) = 0 ∧
        t.word (pageBase p + 0x0C) = 0 ∧ t.word (pageBase p + 0x10) = 0xFFFFFFFF)

/-- R189 and the chapters' reset rules: a power-on reset, completed with TRIP_IN high, leaves State.reset, but for the
model's own fields (log entries 1, 5, 8 to 10). State.reset has TRIP_IN high and stands right after a completion, by the
model's choice (log entries 5, 7). -/
def Obligations.CompletedPowerOnIsReset : Prop :=
  ∀ (dt : Nat) (s : State), (s.elapse dt).tripIn = true →
    ∃ t t', exec (.powerOnReset dt) s = .next t ∧ exec (.resetCompletion 0) t = .next t' ∧
      { t' with pending := [], clock := 0, freeCount := 0, irqSignals := 0, readData := 0, linkOut := []
                stu := { t'.stu with nextSerial := 0 } } = State.reset

/-! ## Registers -/

/-- R185, R187, R188, R189: a full write of NEWS_EN keeps bits 0 to 6, and the request follows at once; a read of NEWS that
covers byte 0 returns the bits and clears all but TRIP, one that does not returns 0 and clears nothing, and a request that
stands falls with its last bit; a register write that is not a full write of CTRL or of NEWS_EN changes nothing. A read of
any bytes returns those of ID, CTRL, NEWS, NEWS_EN and TIME that it covers and 0 elsewhere; during a reset NEWS shows TRIP
alone, and CTRL, NEWS_EN and TIME show 0. The model's inferences are what a read that covers a part of NEWS returns and
clears, that bytes of no register read 0 (log entry 21), and that NEWS shows TRIP alone during a reset (log entry 9). -/
def Obligations.RegistersReadAndWrite : Prop :=
  (∀ (dt : Nat) (v : Word) (s : State), let u := s.elapse dt
    u.resetting = none →
    ∃ en : News, en.word = v &&& 0x7F ∧
      exec (.newsEnWrite dt v) s = .next { u with
        newsEn := en
        irq := u.news.meets en
        irqSignals := if u.news.meets en && !u.irq then u.irqSignals + 1 else u.irqSignals }) ∧
  (∀ (dt first count : Nat) (s : State), let u := s.elapse dt
    u.resetting = none → IrqLaw u → 0 < count → first + count ≤ 4 →
    (first = 0 →
      exec (.newsRead dt first count) s = .next { u with
        readData := u.news.word
        news := ⟨false, false, u.news.trip, false, false, false, false⟩
        irq := u.news.trip && u.newsEn.trip }) ∧
    (first ≠ 0 → exec (.newsRead dt first count) s = .next { u with readData := 0 })) ∧
  (∀ (dt offset : Nat) (bytes : List Byte) (s : State), ignoredWrite offset bytes.length = true →
    exec (.ignoredRegisterWrite dt offset bytes) s = .next (s.elapse dt)) ∧
  ∀ (s : State) (offset count i : Nat), i < count → let a := offset + i
    let shown (w reset : Word) : Word := if s.resetting = none then w else reset
    (s.readRegister offset count).length = count ∧
    (s.readRegister offset count).getD i 0 =
      if a < 4 then (0x7C5A0001 : Word).extractLsb' (8 * a) 8
      else if a < 8 then (shown (if s.ctrlCommanded then 2 else 0) 0).extractLsb' (8 * (a - 4)) 8
      else if a < 12 then (shown s.news.word 4).extractLsb' (8 * (a - 8)) 8
      else if a < 16 then (shown s.newsEn.word 0).extractLsb' (8 * (a - 12)) 8
      else if a < 20 then (shown s.time 0).extractLsb' (8 * (a - 16)) 8
      else 0

/-- R119, R186, R117: a CTRL write that leaves COMMANDED changes nothing; one that sets it makes COMMANDED present and
leaves the latch set, with COMMANDED as first-out when the latch was clear; one that clears it makes the cause leave and
does not touch the latch. -/
def Obligations.CommandedBitIsALevelCause : Prop :=
  ∀ (dt : Nat) (v : Word) (s : State), let u := s.elapse dt
    u.resetting = none → v.getLsbD 0 = false → LevelLaw u → FlushLaw u →
    (v.getLsbD 1 = u.ctrlCommanded → exec (.commanded dt v) s = .next u) ∧
    (v.getLsbD 1 = true → u.ctrlCommanded = false →
      ∃ t, exec (.commanded dt v) s = .next t ∧ t.ctrlCommanded = true ∧ t.trp.present.commanded = true ∧
        t.trp.latch = true ∧ t.tripIn = u.tripIn ∧ t.trk.created = u.trk.created ∧
        (u.trp.latch = true → t.trp.firstOut = u.trp.firstOut ∧
          t = { u with ctrlCommanded := true, trp := t.trp, tripNumber := u.tripNumber + 1, cram := t.cram } ∧
          t.cram.readWords 0x00400 65 = tripWords t.tripNumber t.trp ∧
          ∀ a, a < 0x00400 ∨ 0x00504 ≤ a → t.cram.read a = u.cram.read a) ∧
        (u.trp.latch = false → t.trp.firstOut =
          some ⟨.commanded, u.time, u.lnk.cycleNumber, u.lnk.runState, none⟩)) ∧
    (v.getLsbD 1 = false → u.ctrlCommanded = true →
      ∃ t, exec (.commanded dt v) s = .next t ∧
        t = { u with
          ctrlCommanded := false
          trp := { u.trp with present := { u.trp.present with commanded := false } }
          tripNumber := u.tripNumber + 1
          cram := t.cram } ∧
        t.cram.readWords 0x00400 65 = tripWords t.tripNumber t.trp ∧
        ∀ a, a < 0x00400 ∨ 0x00504 ≤ a → t.cram.read a = u.cram.read a)

/-! ## Host writes of CRAM -/

/-- R175, R172, R177: a write inside the staging area, of any size and alignment, or of bytes of one word in the request part
of an EMPTY slot, writes its bytes and nothing else; a write of several words is judged word by word in address order. The
last clause is the model's choice (log entry 2): an order that a word before the last posts is acted on before the next
word of the same write. -/
def Obligations.HostWritesTheirBytesWordByWord : Prop :=
  ∀ (dt addr : Nat) (bytes : List Byte) (s : State), let u := s.elapse dt
    let written : Prop := ∃ t, exec (.hostCramWrite dt addr bytes) s = .next t ∧ t = { u with cram := t.cram } ∧
      ∀ a, t.cram.read a = if addr ≤ a ∧ a < addr + bytes.length then bytes.getD (a - addr) 0 else u.cram.read a
    u.resetting = none →
    (0x08000 ≤ addr → addr + bytes.length ≤ 0x10000 → written) ∧
    (∀ i : Fin 32, bytes ≠ [] → slotBase i + 4 ≤ addr → addr + bytes.length ≤ slotBase i + 0x40 →
      addr + bytes.length ≤ addr / 4 * 4 + 4 → u.slotState i = slotEmpty → written) ∧
    ∀ more : List Byte, bytes ≠ [] → more ≠ [] → (addr + bytes.length) % 4 = 0 →
      addr + bytes.length + more.length ≤ 0x40000 →
      ∃ t, exec (.hostCramWrite dt addr bytes) s = .next t ∧
        (Settled t → exec (.hostCramWrite dt addr (bytes ++ more)) s = exec (.hostCramWrite 0 (addr + bytes.length) more) t) ∧
        (∀ i : Fin 32, addr = slotBase i → bytes = wordBytes slotPosted → u.slotState i = slotEmpty →
          exec (.hostCramWrite dt addr (bytes ++ more)) s = .next ((t.actOrders 64).hostWrite (addr + 4) more))

/-- R172, R174: a write of bytes of one word is dropped as PART_AREA in an area only the part writes, as SUB_WORD when it
covers a guarded word in part, as BODY_FROZEN in the request part of a slot that is not EMPTY; only the violation count
and record change. An unpopulated word is ignored. -/
def Obligations.DroppedWordsCount : Prop :=
  ∀ (dt addr : Nat) (bytes : List Byte) (s : State), let u := s.elapse dt
    let w := addr / 4 * 4
    let dropped (reason : Violation) : State := { u with hif := { u.hif with
      violations := if u.hif.violations = 0xFFFFFFFF then 0xFFFFFFFF else u.hif.violations + 1
      last := ⟨BitVec.ofNat 32 w, reason, u.time⟩ } }
    u.resetting = none → bytes ≠ [] → addr + bytes.length ≤ w + 4 →
    (w < 0x00200 ∧ w ≠ 0x00100 ∨ 0x00400 ≤ w ∧ w < 0x00800 ∨ 0x01000 ≤ w ∧ w < 0x02000 ∨
        0x02000 ≤ w ∧ w < 0x03000 ∧ 0x40 ≤ w % 0x80 ∨ 0x10000 ≤ w ∧ w < 0x20000 ∧ w % 0x1000 ≠ 0 →
      exec (.hostCramWrite dt addr bytes) s = .next (dropped .partArea)) ∧
    (w = 0x00100 ∨ 0x02000 ≤ w ∧ w < 0x03000 ∧ w % 0x80 = 0 ∨ 0x10000 ≤ w ∧ w < 0x20000 ∧ w % 0x1000 = 0 →
      bytes.length < 4 → exec (.hostCramWrite dt addr bytes) s = .next (dropped .subWord)) ∧
    (∀ i : Fin 32, slotBase i < w → w < slotBase i + 0x40 → u.slotState i ≠ slotEmpty →
      exec (.hostCramWrite dt addr bytes) s = .next (dropped .bodyFrozen)) ∧
    (0x00200 ≤ w ∧ w < 0x00400 ∨ 0x00800 ≤ w ∧ w < 0x01000 ∨ 0x03000 ≤ w ∧ w < 0x08000 ∨
        0x20000 ≤ w ∧ w < 0x40000 →
      exec (.hostCramWrite dt addr bytes) s = .next u)

/-- R173, R182, R169, R38: full writes of guarded words: the same value is a no-op; DONE or REFUSED to EMPTY, FULL to FREE
and HELD to ARMED write the word and nothing else; any other value, but EMPTY to POSTED, is dropped as an illegal
transition. -/
def Obligations.GuardedWordsFollowTheirTransitions : Prop :=
  ∀ (dt a : Nat) (v : Word) (s : State), let u := s.elapse dt
    let old := u.word a
    let dropped : State := { u with hif := { u.hif with
      violations := if u.hif.violations = 0xFFFFFFFF then 0xFFFFFFFF else u.hif.violations + 1
      last := ⟨BitVec.ofNat 32 a, .illegalTransition, u.time⟩ } }
    let slot := 0x02000 ≤ a ∧ a < 0x03000 ∧ a % 0x80 = 0
    let page := 0x10000 ≤ a ∧ a < 0x20000 ∧ a % 0x1000 = 0
    let legal := (slot ∧ (old = slotDone ∨ old = slotRefused) ∧ v = slotEmpty) ∨
      (page ∧ old = pageFull ∧ v = pageFree) ∨ (a = 0x00100 ∧ old = armHeld ∧ v = armArmed)
    u.resetting = none → slot ∨ page ∨ a = 0x00100 →
    (v = old → exec (.hostCramWrite dt a (wordBytes v)) s = .next u) ∧
    (legal → ∃ t, exec (.hostCramWrite dt a (wordBytes v)) s = .next t ∧ t = { u with cram := t.cram } ∧
      t.word a = v ∧ ∀ x, x < a ∨ a + 4 ≤ x → t.cram.read x = u.cram.read x) ∧
    (v ≠ old → ¬ legal → ¬ (slot ∧ old = slotEmpty ∧ v = slotPosted) →
      exec (.hostCramWrite dt a (wordBytes v)) s = .next dropped)

/-- R177, R178, R181, R40, 11.3: an accepted POSTED write appends the slot to the queue while an order is TAKEN; with ORD idle
and the queue empty ORD takes the order, whose kind word names one of the ten, and clears the outcome part; a kind word
that names none is refused at the taking with the word read, and a RUN_STATE whose target names no run state with the
target's field code. -/
def Obligations.PostedOrderIsQueuedTakenOrRefused : Prop :=
  ∀ (dt : Nat) (i : Fin 32) (s : State), let u := s.elapse dt
    let args := u.cram.readWords (slotBase i + 0x08) 14
    let kind := u.word (slotBase i + 0x04)
    let target := u.word (slotBase i + 0x08)
    let names (k : OrderKind) : Prop :=
      (kind = 1 ∧ k = .linkConfigure) ∨ (kind = 2 ∧ target = 1 ∧ k = .runState .halt) ∨
      (kind = 2 ∧ target = 2 ∧ k = .runState .ready) ∨ (kind = 2 ∧ target = 3 ∧ k = .runState .run) ∨
      (kind = 3 ∧ k = .loadSchedule) ∨ (kind = 4 ∧ k = .cancelPending) ∨ (kind = 5 ∧ k = .setMode) ∨
      (kind = 6 ∧ k = .operatorTrim) ∨ (kind = 7 ∧ k = .nodeRejoin) ∨ (kind = 8 ∧ k = .tripReset) ∨
      (kind = 9 ∧ k = .counterProgram) ∨ (kind = 10 ∧ k = .closePage)
    u.resetting = none → u.slotState i = slotEmpty →
    (u.ord.taken ≠ none →
      ∃ t, exec (.hostCramWrite dt (slotBase i) (wordBytes slotPosted)) s = .next t ∧
        t = { u with cram := t.cram, ord := { u.ord with queue := u.ord.queue ++ [i] } } ∧
        t.slotState i = slotPosted ∧ ∀ a, a < slotBase i ∨ slotBase i + 4 ≤ a → t.cram.read a = u.cram.read a) ∧
    (u.ord = ⟨[], none⟩ →
      (∀ k, names k → ∃ t, exec (.hostCramWrite dt (slotBase i) (wordBytes slotPosted)) s = .next t ∧
        t = { u with cram := t.cram, ord := ⟨[], some ⟨i, k, args, .handed⟩⟩ } ∧
        t.slotState i = slotTaken ∧ (∀ j, j < 16 → t.word (slotBase i + 0x40 + 4 * j) = 0) ∧
        ∀ a, a < slotBase i ∨ slotBase i + 4 ≤ a ∧ a < slotBase i + 0x40 ∨ slotBase i + 0x80 ≤ a →
          t.cram.read a = u.cram.read a) ∧
      (kind = 0 ∨ 10 < kind.toNat →
        ∃ t, exec (.hostCramWrite dt (slotBase i) (wordBytes slotPosted)) s = .next t ∧
          SlotShows t i slotRefused .badKind [kind] ∧ t.ord = ⟨[], none⟩ ∧ t.news.order = true) ∧
      (kind = 2 → target = 0 ∨ 3 < target.toNat →
        ∃ t, exec (.hostCramWrite dt (slotBase i) (wordBytes slotPosted)) s = .next t ∧
          SlotShows t i slotRefused .badArgument [0x0A] ∧ t.ord = ⟨[], none⟩ ∧ t.news.order = true))

/-! ## Orders -/

/-- R179, R181, R183, R178: completion writes the outcome, the result words and the state word and sets NEWS.ORDER; with the
queue empty ORD becomes idle, else it takes the order at the head of the queue, the one posted first; nothing else changes
but, in HALTED, the status area and its write number. That the status write in HALTED already shows the next order taken is
the model's inference (log entry 16). -/
def Obligations.CompletionWritesTheOutcome : Prop :=
  ∀ (s : State) (t : Taken) (o : OrderOutcome) (rs : List Word),
    s.ord.taken = some t → rs.length ≤ 15 → let e := s.complete o rs
    let reaches (taken : List (Fin 32)) (ord : OrderUnit) : Prop :=
      SlotShows e t.slot (if o = .ok then slotDone else slotRefused) o rs ∧
      e = { s with cram := e.cram, ord := ord, hif := e.hif
                   news := { s.news with order := true }, irq := e.irq, irqSignals := e.irqSignals } ∧
      (s.lnk.runState ≠ .halted → e.hif = s.hif) ∧
      (s.lnk.runState = .halted → e.hif = { s.hif with statusNumber := s.hif.statusNumber + 1 } ∧
        e.cram.readWords 0x01000 564 = statusWords e e.hif.statusNumber) ∧
      ∀ a, (∀ j ∈ t.slot :: taken, ¬ (slotBase j ≤ a ∧ a < slotBase j + 4) ∧
          ¬ (slotBase j + 0x40 ≤ a ∧ a < slotBase j + 0x80)) →
        ¬ (s.lnk.runState = .halted ∧ 0x01000 ≤ a ∧ a < 0x02000) → e.cram.read a = s.cram.read a
    (s.ord.queue = [] → reaches [] ⟨[], none⟩) ∧
    ∀ j rest, s.ord.queue = j :: rest → j ≠ t.slot →
      let args := s.cram.readWords (slotBase j + 0x08) 14
      let kind := parseKind (s.word (slotBase j + 0x04)) args
      kind.rejected = none →
      reaches [j] ⟨rest, some ⟨j, kind, args, .handed⟩⟩ ∧ e.slotState j = slotTaken ∧
      ∀ n, n < 16 → e.word (slotBase j + 0x40 + 4 * n) = 0

/-- R24, R25, R46, R51, R84, R22, R23, 11.4: a LINK_CONFIGURE whose record passes every check: the node table takes the
record's entries in their order, T_cyc, T_rd, T_cmd and W its words, and the link starts before the order completes OK;
NEWS.NODE is set where a node of the table before it was not ACTIVE. That the SYNC frame is sent before the order completes
is the model's inference (log entry 16). -/
def Obligations.LinkConfigureStartsTheLink : Prop :=
  ∀ (s : State) (i : Fin 32) (args : List Word),
    let base := 0x08000 + (args.getD 0 0).toNat
    let w (n : Nat) : Nat := (s.word (base + 4 * n)).toNat
    let address (j : Nat) : Byte := s.cram.read (base + 0x14 + 4 * j)
    let role (j : Nat) : Nat := (s.cram.read (base + 0x15 + 4 * j)).toNat
    let stand (j : Nat) : Nat := (s.cram.read (base + 0x16 + 4 * j)).toNat
    let nodes : List Node := (List.range (w 4)).map (fun j => ⟨address j,
      if role j = 1 then .gap else if role j = 2 then .force else if role j = 3 then .speed else .exitGauge,
      if role j = 4 then none else some (Fin.ofNat 7 (stand j - 1)),
      .active, 0, 0, none, false, .none, 0, none, [], none, false, false, none⟩)
    s.ord.taken = some ⟨i, .linkConfigure, args, .handed⟩ → s.lnk.runState = .halted →
    (args.getD 0 0).toNat % 4 = 0 → (args.getD 0 0).toNat + 116 ≤ 0x8000 →
    1 ≤ w 4 → w 4 ≤ 24 → 250 ≤ w 0 → w 0 ≤ 2000 → w 0 % 50 = 0 → 50 ≤ w 1 → w 1 + 50 ≤ w 0 →
    w 1 + 8 ≤ w 2 → w 2 + 40 ≤ w 0 → w 3 ≤ 127 →
    (∀ j, j < w 4 → 1 ≤ (address j).toNat ∧ (address j).toNat ≤ 254 ∧ 1 ≤ role j ∧ role j ≤ 4 ∧
      (role j = 4 → stand j = 0) ∧ (role j ≠ 4 → 1 ≤ stand j ∧ stand j ≤ 7)) →
    (∀ j k, j < k → k < w 4 → address j ≠ address k ∧ (role j ≠ 4 → (role j, stand j) ≠ (role k, stand k))) →
    ((List.range (w 4)).filter (fun j => role j = 4)).length = 1 →
    ∃ (u : State), exec .linkConfigure s = .next (u.complete .ok []) ∧
      u.lnk.runState = .ready ∧ u.lnk.timing = some ⟨w 0, w 1, w 2⟩ ∧
      u.lnk.warn = (if w 3 = 0 then 96 else w 3) ∧ u.lnk.nodes = nodes ∧
      u.lnk.cycleNumber = s.lnk.cycleNumber + 1 ∧ u.lnk.silence = 0 ∧ u.lnk.published = [] ∧
      u.lnk.cycle = some ⟨s.lnk.cycleNumber + 1, s.clock, nodes.map (·.address), [], [], false, false, false, false,
        false⟩ ∧
      u.linkOut = s.linkOut ++ [syncFrame (s.lnk.cycleNumber + 1) .ready s.trp.latch] ∧
      (∀ k, (u.gapStand k) = { s.gapStand k with integrator := 0, committed := none, rPrev := none, devCount := 0 }) ∧
      u.news = { s.news with node := s.news.node || s.lnk.nodes.any (fun n => n.health != .active) } ∧
      u.gap.mi = s.gap.mi ∧ u.gap.figures = s.gap.figures ∧ u.trp = s.trp ∧ u.cram = s.cram ∧ u.stu = s.stu ∧
      u.trk = s.trk ∧ u.ord = s.ord ∧ u.evc = s.evc ∧ u.rpt = s.rpt

/-- R24: the refusals of LINK_CONFIGURE by its nine checks, in their order, with nothing changed but the order's
completion. Three points are the model's, log entry 13: of several faults of one entry check 6 reports the address before the
role and the role before the stand; of several pairs that repeat, checks 7 and 8 report the one whose later entry comes
first; and check 8 passes over EXIT_GAUGE. -/
def Obligations.LinkConfigureRefusals : Prop :=
  ∀ (s : State) (i : Fin 32) (args : List Word),
    let offset := (args.getD 0 0).toNat
    let base := 0x08000 + offset
    let w (n : Nat) : Nat := (s.word (base + 4 * n)).toNat
    let address (j : Nat) : Nat := (s.cram.read (base + 0x14 + 4 * j)).toNat
    let role (j : Nat) : Nat := (s.cram.read (base + 0x15 + 4 * j)).toNat
    let stand (j : Nat) : Nat := (s.cram.read (base + 0x16 + 4 * j)).toNat
    let addressOk (j : Nat) : Prop := 1 ≤ address j ∧ address j ≤ 254
    let roleOk (j : Nat) : Prop := 1 ≤ role j ∧ role j ≤ 4
    let standOk (j : Nat) : Prop := (role j = 4 → stand j = 0) ∧ (role j ≠ 4 → 1 ≤ stand j ∧ stand j ≤ 7)
    let sameAddress (j k : Nat) : Prop := j < k ∧ address j = address k
    let sameRole (j k : Nat) : Prop := j < k ∧ role k ≠ 4 ∧ role j = role k ∧ stand j = stand k
    let refused (o : OrderOutcome) (rs : List Word) : Prop := exec .linkConfigure s = .next (s.complete o rs)
    s.ord.taken = some ⟨i, .linkConfigure, args, .handed⟩ →
    if s.lnk.runState ≠ .halted then refused .wrongState []
    else if ¬ (offset % 4 = 0 ∧ offset + 116 ≤ 0x8000) then refused .badArgument [0x01, 0]
    else if w 4 = 0 ∨ 24 < w 4 then refused .badArgument [0x02, 0]
    else if w 0 < 250 ∨ 2000 < w 0 ∨ w 0 % 50 ≠ 0 then refused .badArgument [0x03, 0]
    else if w 1 < 50 ∨ w 0 < w 1 + 50 then refused .badArgument [0x04, 0]
    else if w 2 < w 1 + 8 ∨ w 0 < w 2 + 40 then refused .badArgument [0x05, 0]
    else if 127 < w 3 then refused .badArgument [0x06, 0]
    else
      (∀ j, j < w 4 → (∀ k, k < j → addressOk k ∧ roleOk k ∧ standOk k) →
        (¬ addressOk j → refused .badArgument [0x07, BitVec.ofNat 32 (j + 1)]) ∧
        (addressOk j → ¬ roleOk j → refused .badArgument [0x08, BitVec.ofNat 32 (j + 1)]) ∧
        (addressOk j → roleOk j → ¬ standOk j → refused .badArgument [0x09, BitVec.ofNat 32 (j + 1)])) ∧
      ((∀ j, j < w 4 → addressOk j ∧ roleOk j ∧ standOk j) →
        (∀ j k, sameAddress j k → k < w 4 → (∀ a b, b < k → ¬ sameAddress a b) →
          refused .badArgument [0x07, BitVec.ofNat 32 (k + 1)]) ∧
        ((∀ a b, b < w 4 → ¬ sameAddress a b) →
          (∀ j k, sameRole j k → k < w 4 → (∀ a b, b < k → ¬ sameRole a b) →
            refused .badArgument [0x08, BitVec.ofNat 32 (k + 1)]) ∧
          ((∀ a b, b < w 4 → ¬ sameRole a b) → ((List.range (w 4)).filter (fun j => role j = 4)).length ≠ 1 →
            refused .badArgument [0x08, 0])))

/-- R40 to R43, R46, R51: a RUN_STATE READY taken in HALTED is a link start on the loaded table, with NEWS.NODE set where a
node was not ACTIVE, or WRONG_STATE with an empty table; RUN and HALT taken in HALTED are refused at once; while the link
runs each RUN_STATE order waits. That the SYNC frame of that link start is sent before the order completes is the model's
inference (log entry 16). -/
def Obligations.RunStateOrdersAtTheirTaking : Prop :=
  ∀ (s : State) (i : Fin 32) (args : List Word),
    (s.ord.taken = some ⟨i, .runState .ready, args, .handed⟩ → s.lnk.runState = .halted →
      (s.lnk.nodes = [] → exec .runStateReady s = .next (s.complete .wrongState [])) ∧
      (s.lnk.nodes ≠ [] → ∃ (u : State), exec .runStateReady s = .next (u.complete .ok []) ∧
        u.lnk.runState = .ready ∧ u.lnk.timing = s.lnk.timing ∧ u.lnk.warn = s.lnk.warn ∧
        u.lnk.nodes = s.lnk.nodes.map (fun n => ⟨n.address, n.role, n.stand, .active, 0, 0, none, false, .none, 0, none,
          [], none, false, false, none⟩) ∧
        u.lnk.cycleNumber = s.lnk.cycleNumber + 1 ∧ u.lnk.silence = 0 ∧ u.lnk.published = [] ∧
        u.linkOut = s.linkOut ++ [syncFrame (s.lnk.cycleNumber + 1) .ready s.trp.latch] ∧
        (∀ k, (u.gapStand k) = { s.gapStand k with integrator := 0, committed := none, rPrev := none, devCount := 0 }) ∧
        u.news = { s.news with node := s.news.node || s.lnk.nodes.any (fun n => n.health != .active) } ∧
        u.trp = s.trp ∧ u.stu = s.stu ∧ u.trk = s.trk ∧ u.cram = s.cram)) ∧
    ∀ (target : Target) (c : Instr),
      (c, target) = (.runStateReady, .ready) ∨ (c, target) = (.runStateRun, .run) ∨ (c, target) = (.runStateHalt, .halt) →
      s.ord.taken = some ⟨i, .runState target, args, .handed⟩ →
      (s.lnk.runState ≠ .halted →
        exec c s = .next { s with ord := { s.ord with taken := some ⟨i, .runState target, args, .waiting⟩ } }) ∧
      (s.lnk.runState = .halted → target = .run → exec c s = .next (s.complete .wrongState [])) ∧
      (s.lnk.runState = .halted → target = .halt → exec c s = .next (s.complete .nothingToDo []))

/-- R40 to R43, R22, R23, R123: a RUN_STATE order taken while the link runs is checked and applied at the next cycle start: RUN
from READY with the latch clear and a schedule active; READY from RUN; HALT from READY, which stops the link and latches
HALT. RUN with the latch set is refused TRIPPED, RUN with no schedule active and HALT in RUN WRONG_STATE, RUN in RUN and
READY in READY NOTHING_TO_DO, and the cycle starts. -/
def Obligations.RunStateOrdersApplyAtTheCycleStart : Prop :=
  ∀ (s : State) (i : Fin 32) (args : List Word) (c : Cycle) (timing : Timing),
    let n := s.lnk.cycleNumber + 1
    let taken (target : Target) : Prop := s.ord.taken = some ⟨i, .runState target, args, .handed⟩
    let starts (cmd : Instr) (now : RunState) (state : Word) (o : OrderOutcome) : Prop :=
      ∃ s' t, exec cmd s = .next s' ∧ exec .cycleStart s' = .next t ∧ t.lnk.runState = now ∧
        t.lnk.cycleNumber = n ∧ t.linkOut = s.linkOut ++ [syncFrame n now s.trp.latch] ∧
        SlotShows t i state o [] ∧ t.ord = ⟨[], none⟩ ∧ t.stu = s.stu ∧ t.trp = s.trp ∧ t.gap = s.gap
    Timely s → s.lnk.cycle = some c → s.lnk.timing = some timing → c.startAt + timing.cyc = s.clock →
    s.ord.queue = [] →
    (taken .run → s.lnk.runState = .ready →
      (s.trp.latch = true → starts .runStateRun .ready slotRefused .tripped) ∧
      (s.trp.latch = false → s.stu.active = none → starts .runStateRun .ready slotRefused .wrongState) ∧
      (s.trp.latch = false → s.stu.active ≠ none → starts .runStateRun .run slotDone .ok)) ∧
    (taken .run → s.lnk.runState = .run → starts .runStateRun .run slotRefused .nothingToDo) ∧
    (taken .ready → s.lnk.runState = .ready → starts .runStateReady .ready slotRefused .nothingToDo) ∧
    (taken .ready → s.lnk.runState = .run → starts .runStateReady .ready slotDone .ok) ∧
    (taken .halt → s.lnk.runState = .run → starts .runStateHalt .run slotRefused .wrongState) ∧
    (taken .halt → s.lnk.runState = .ready →
      ∃ s' t, exec .runStateHalt s = .next s' ∧ exec .cycleStart s' = .next t ∧ t.lnk.runState = .halted ∧
        t.lnk.cycleNumber = s.lnk.cycleNumber ∧ t.lnk.cycle = none ∧ t.linkOut = s.linkOut ∧ t.trp.latch = true ∧
        t.lnk.published = c.log ∧ t.lnk.nodes = s.lnk.nodes ∧
        (s.trp.latch = false → t.trp.firstOut = some ⟨.halt, s.time, s.lnk.cycleNumber, .ready, none⟩) ∧
        (∀ k, t.trp.present.forceLimit.get k = false) ∧ t.trp.present.linkSilent = false ∧
        SlotShows t i slotDone .ok [] ∧ t.ord = ⟨[], none⟩)

/-- R2, R3, R4, R6: LOAD_SCHEDULE copies the record as it stands and ends 40 µs later, a bad offset copies nothing; the
refusals at the end of the copy, in their order, each leave everything but the order as it was. -/
def Obligations.LoadScheduleCopiesAndRefuses : Prop :=
  (∀ (s : State) (i : Fin 32) (args : List Word),
    let offset := (args.getD 0 0).toNat
    let copy := if offset % 4 = 0 ∧ offset + 736 ≤ 0x8000 then some (s.cram.readWords (0x08000 + offset) 184) else none
    s.ord.taken = some ⟨i, .loadSchedule, args, .handed⟩ →
    exec .loadSchedule s = .next { s with
      ord := { s.ord with taken := some ⟨i, .loadSchedule, args, .copying (s.clock + 40) copy⟩ } }) ∧
  ∀ (s : State) (i : Fin 32) (args : List Word) (copy : Option (List Word)),
    let refused (o : OrderOutcome) (rs : List Word) : Prop := exec .scheduleCopyEnd s = .next (s.complete o rs)
    Timely s → s.ord.taken = some ⟨i, .loadSchedule, args, .copying s.clock copy⟩ →
    (copy = none → refused .badArgument [0x01, 0]) ∧
    ∀ words, copy = some words →
      (∀ code stand, scheduleFault words (s.stu.active.map (·.sched.coilId)) = some (code, stand) →
        refused .badArgument [BitVec.ofNat 32 code, BitVec.ofNat 32 stand]) ∧
      (scheduleFault words (s.stu.active.map (·.sched.coilId)) = none →
        let entry (k : Stand) : Bool := ((readSchedule words 0).entries.get k).isSome
        let has (role : Role) (k : Stand) : Bool := s.lnk.nodes.any (fun n => n.role == role && n.stand == some k)
        let whole (k : Stand) : Prop := has .gap k = true ∧ has .force k = true ∧ has .speed k = true
        (∀ k, entry k = true → (∀ j, j < k → entry j = true → whole j) →
          (has .gap k = false → refused .nodeMissing [BitVec.ofNat 32 (k.val + 1), 1]) ∧
          (has .gap k = true → has .force k = false → refused .nodeMissing [BitVec.ofNat 32 (k.val + 1), 2]) ∧
          (has .gap k = true → has .force k = true → has .speed k = false →
            refused .nodeMissing [BitVec.ofNat 32 (k.val + 1), 3])) ∧
        ((∀ k, entry k = true → whole k) → s.stu.pending ≠ none →
          ((args.getD 1 0).getLsbD 0 = false → refused .pendingBusy []) ∧
          ((args.getD 1 0).getLsbD 0 = true → s.switchProgress ≠ 0 → refused .switchInProgress [])))

/-- R3, 1.2, 11.4: the checks of a copied schedule record, word by word, in their order, each with its field code and the
stand number of its entry; and the schedule a record gives. -/
def Obligations.ScheduleRecordsAreCheckedAndRead : Prop :=
  ∀ (words : List Word) (active : Option Word) (serial : Nat),
    let w (n : Nat) : Nat := (words.getD n 0).toNat
    let masked (k : Stand) : Bool := (words.getD 1 0).getLsbD k.val
    let masks : List Stand := (List.finRange 7).filter masked
    let field (k : Stand) (n : Nat) : Nat :=
      w (16 + 24 * ((List.finRange 7).filter (fun j => decide (j < k) && masked j)).length + n)
    let coilRows : List (Nat × Nat × Nat × Nat) :=
      [(0x21, 1, 127, 1), (0x22, 1, 7, 2), (0x23, 100, 100000, 3), (0x24, 1000, 50000000, 4), (0x25, 0, w 4, 5),
       (0x26, 500, 20000, 6), (0x27, 1, 500, 7), (0x28, 0, 4095, 8), (0x29, 0, 2000, 9)]
    let rows : List (Nat × Nat × Nat × Nat) :=
      [(0x40, 0, 60000, 0), (0x41, 0, 99999, 1), (0x42, 0, 99999, 2), (0x44, 50, 2000, 4), (0x45, 0, 5000, 5),
       (0x46, 500, 60000, 6), (0x47, 0, 4095, 7), (0x48, 0, 4095, 8), (0x49, 0, 256, 9), (0x4A, 1, 500, 10),
       (0x4B, 0, 5000, 11), (0x4C, 0, 2000, 12), (0x4D, 0, 255, 13), (0x4E, 0, 65535, 14), (0x4F, 0, 65535, 15),
       (0x50, 0, 65535, 16), (0x51, 1, 30000, 17), (0x52, 0, 128, 18), (0x53, 4096, 4915, 19), (0x54, 1, 5000, 20),
       (0x55, 1, 255, 21)]
    let coilInside (r : Nat × Nat × Nat × Nat) : Prop := r.2.1 ≤ w r.2.2.2 ∧ w r.2.2.2 ≤ r.2.2.1
    let inside (k : Stand) (r : Nat × Nat × Nat × Nat) : Prop := r.2.1 ≤ field k r.2.2.2 ∧ field k r.2.2.2 ≤ r.2.2.1
    let limits (k : Stand) : Prop := field k 1 < field k 2
    let retract (k : Stand) : Prop := field k 1 ≤ field k 3 ∧ field k 3 ≤ field k 2
    let tail (k : Stand) : Prop := field k 15 < field k 14
    let head (k : Stand) : Prop := field k 14 < field k 16
    let passes (k : Stand) : Prop := (∀ r ∈ rows, inside k r) ∧ limits k ∧ retract k ∧ tail k ∧ head k
    let result := scheduleFault words active
    (∀ a r b, coilRows = a ++ r :: b → (∀ q ∈ a, coilInside q) → ¬ coilInside r → result = some (r.1, 0)) ∧
    ((∀ r ∈ coilRows, coilInside r) →
      if w 2 ≠ masks.length then result = some (0x22, 0)
      else if active = some (words.getD 0 0) then result = some (0x20, 0)
      else
        (∀ k, masked k = true → (∀ j, j < k → masked j = true → passes j) →
          (∀ a r b, rows = a ++ r :: b → (∀ q ∈ a, inside k q) → ¬ inside k r → result = some (r.1, k.val + 1)) ∧
          ((∀ r ∈ rows, inside k r) →
            (¬ limits k → result = some (0x42, k.val + 1)) ∧
            (limits k → ¬ retract k → result = some (0x43, k.val + 1)) ∧
            (limits k → retract k → ¬ tail k → result = some (0x4E, k.val + 1)) ∧
            (limits k → retract k → tail k → ¬ head k → result = some (0x50, k.val + 1)))) ∧
        ((∀ k, masked k = true → passes k) →
          result = if (masks.map (fun k => field k 9)).sum ≤ 256 then none else some (0x49, 0))) ∧
    ∃ entries, readSchedule words serial = ⟨serial, words.getD 0 0, w 3, w 4, w 5, w 6, w 7, w 8, w 9, entries⟩ ∧
      ∀ k, entries.get k = if masked k = true then some ⟨field k 0, field k 1, field k 2, field k 3, field k 4, field k 5,
        field k 6, field k 7, field k 8, field k 9, field k 10, field k 11, field k 12, field k 13, field k 14, field k 15,
        field k 16, field k 17, field k 18, field k 19, field k 20, field k 21⟩ else none

/-- R6, R8 to R11, R105, R112: an accepted schedule enters the pending slot, in place of a pending one where the order's
replace flag is set, whose figures leave the list; the switch test follows, and the outcome shows the switch progress it
reaches; with stand 1 LOADED it switches no stand, and with the mill empty it switches all seven and the coil change
completes before the outcome. Which figures leave is told by the schedule's serial, the model's own number, and so is
nextSerial (log entry 10). -/
def Obligations.LoadScheduleArmsThePendingSlot : Prop :=
  ∀ (s : State) (i : Fin 32) (args words : List Word),
    let sched := readSchedule words s.stu.nextSerial
    Timely s → s.ord.taken = some ⟨i, .loadSchedule, args, .copying s.clock (some words)⟩ →
    scheduleFault words (s.stu.active.map (·.sched.coilId)) = none → s.missingNode sched.entries = none →
    s.switchProgress = 0 → s.stu.pending = none ∨ (args.getD 1 0).getLsbD 0 = true →
    let armed : State := { s with
      stu := { s.stu with pending := some ⟨sched, false⟩, nextSerial := s.stu.nextSerial + 1 }
      gap := { s.gap with figures :=
        s.gap.figures.filter (fun f => s.stu.pending.all (fun h => f.serial != h.sched.serial)) ++
          [⟨s.stu.nextSerial, words.getD 0 0, sched.hFin, sched.tol, sched.km⟩] } }
    (let u := armed.switchTest;
      exec .scheduleCopyEnd s = .next (u.complete .ok [BitVec.ofNat 32 (if u.stu.pending = none then 7
        else ((List.finRange 7).filter (fun k => (u.stand k).use == .pending)).length)])) ∧
    ((s.stand 0).bite = .loaded → exec .scheduleCopyEnd s = .next (armed.complete .ok [0])) ∧
    (s.comp = none → s.trk.segs = [] → s.trk.creation = none → (∀ k, (s.stand k).bite = .empty) →
      ∃ (u : State), exec .scheduleCopyEnd s = .next (u.complete .ok [7]) ∧
        u.stu.active = some ⟨sched, false⟩ ∧ u.stu.pending = none ∧
        (∀ k, u.stand k = { s.stand k with use := .active, trim := 0, lockCount := 0, lockSum := 0, debounce := 0 }) ∧
        (∀ k, u.gapStand k = { s.gapStand k with integrator := 0, hLock := none }) ∧
        u.gap.mi = 0 ∧ u.news = { s.news with coil := true } ∧
        u.stu.switchCharge = (if s.lnk.runState = .halted then s.stu.switchCharge else s.stu.switchCharge + 7) ∧
        u.lnk = s.lnk ∧ u.trk = s.trk ∧ u.trp = s.trp ∧ u.cram = s.cram ∧ u.evc = s.evc ∧ u.rpt = s.rpt)

/-- R8 to R11, R105, R112: when a stand is free (EMPTY, with no segment of its coil that has not crossed the point of the
first in-service stand numbered as it or higher, and no open creation record of that coil; where its schedule has no such
stand the point is the gauge's, and with no schedule EMPTY is enough), and the switch test: it passes over the stands on
PENDING, switches the free ones in increasing order and stops at the first that is not free; each switch clears trim,
lock-on, debounce and integrator, and MI at the last in-service stand of the pending schedule, and is charged to the
computation whose work is being done, else to the next, in HALTED to none; stand 7 completes the coil change. Which coil
figures leave then is told by the schedule's serial, the model's own number (log entry 10). That what a switch in a
computation changes stands from then on, and not from the computation's end (R32), is the model's inference (log entry 22).
-/
def Obligations.SwitchTestSwitchesTheFreeStands : Prop :=
  ∀ (s : State), let t := s.switchTest
    let free (k : Stand) : Prop := (s.stand k).bite = .empty ∧ ∀ c, s.schedOf k = some c →
      (∀ g ∈ s.trk.segs, g.coilId = c.coilId → ∃ j, k ≤ j ∧ (c.entries.get j).isSome = true ∧
        (∀ i, k ≤ i → i < j → c.entries.get i = none) ∧ ∃ e ∈ g.list, e.1 = j) ∧
      ∀ r, s.trk.creation = some r → r.coilId ≠ c.coilId
    (∀ k, s.free k = true ↔ free k) ∧
    (s.stu.pending = none → t = s) ∧
    ∀ (p : HeldSchedule) (switches : Stand → Bool), s.stu.pending = some p →
      (∀ k, switches k = true ↔
        (s.stand k).use ≠ .pending ∧ ∀ i, i ≤ k → (s.stand i).use ≠ .pending → s.free i = true) →
      let n := ((List.finRange 7).filter switches).length
      let completes := switches 6
      let mi : Int :=
        if ∃ k, switches k = true ∧ (p.sched.entries.get k).isSome = true ∧ ∀ j, k < j → p.sched.entries.get j = none
        then 0 else s.gap.mi
      let carried (h : HeldSchedule) : Prop := (∃ g ∈ s.trk.segs, g.serial = h.sched.serial) ∨
        ∃ r, s.trk.creation = some r ∧ r.serial = h.sched.serial
      (∀ k, t.stand k =
        let r := if switches k then { s.stand k with
          use := .pending, trim := 0, lockCount := 0, lockSum := 0, debounce := 0 } else s.stand k
        { r with use := if completes then .active else r.use }) ∧
      (∀ k, t.gapStand k = if switches k then { s.gapStand k with integrator := 0, hLock := none } else s.gapStand k) ∧
      (¬ completes → t.gap.mi = mi ∧ t.gap.figures = s.gap.figures) ∧
      (completes →
        (mi.natAbs ≤ p.sched.miMax → t.gap.mi = mi) ∧ ((p.sched.miMax : Int) < mi → t.gap.mi = p.sched.miMax) ∧
        (mi < -(p.sched.miMax : Int) → t.gap.mi = -(p.sched.miMax : Int)) ∧
        (s.stu.active = none → t.gap.figures = s.gap.figures) ∧
        ∀ h, s.stu.active = some h → (carried h → t.gap.figures = s.gap.figures) ∧
          (¬ carried h → t.gap.figures = s.gap.figures.filter (fun f => f.serial != h.sched.serial))) ∧
      (∀ x, s.comp = some x → x.working = true → t.stu.switchCharge = s.stu.switchCharge ∧
        ∃ y, t.comp = some y ∧ y = { x with switches := x.switches + n, switched := y.switched } ∧
          ∀ k, y.switched.get k = (x.switched.get k || switches k)) ∧
      ((∀ x, s.comp = some x → x.working = false) → t.comp = s.comp ∧
        t.stu.switchCharge = if s.lnk.runState = .halted then s.stu.switchCharge else s.stu.switchCharge + n) ∧
      t = { s with
        stu := { s.stu with
          active := if completes then some p else s.stu.active
          pending := if completes then none else some p
          stands := t.stu.stands, switchCharge := t.stu.switchCharge }
        gap := { s.gap with stands := t.gap.stands, mi := t.gap.mi, figures := t.gap.figures }
        comp := t.comp
        news := if completes then { s.news with coil := true } else s.news
        irq := t.irq, irqSignals := t.irqSignals } ∧
      (¬ completes → t.irq = s.irq ∧ t.irqSignals = s.irqSignals)

/-- R7, R105: CANCEL_PENDING is refused with an empty pending slot, or while a stand uses PENDING; else the pending schedule is
discarded, with its coil figures, and nothing else changes. Which figures are its own is told by the schedule's serial, the
model's own number (log entry 10). -/
def Obligations.CancelPendingDiscardsThePendingSchedule : Prop :=
  ∀ (s : State) (i : Fin 32) (args : List Word),
    s.ord.taken = some ⟨i, .cancelPending, args, .handed⟩ →
    (s.stu.pending = none → exec .cancelPending s = .next (s.complete .nothingToDo [])) ∧
    (s.stu.pending ≠ none → (∃ k, (s.stand k).use = .pending) →
      exec .cancelPending s = .next (s.complete .switchInProgress [])) ∧
    ∀ h, s.stu.pending = some h → (∀ k, (s.stand k).use ≠ .pending) →
      exec .cancelPending s = .next (State.complete { s with
        stu := { s.stu with pending := none }
        gap := { s.gap with figures := s.gap.figures.filter (fun f => f.serial != h.sched.serial) } } .ok [])

/-- R15, R16: SET_MODE is checked, applied and completed at once in HALTED; while the link runs it waits, and the next
compute start is that of the state in which it has been checked, applied and completed. That this comes before LNK's work
and the detections of that compute start, so that GAUGE is judged against the latch from before any trip they make, is the
model's inference (log entry 11). -/
def Obligations.SetModeChecksAndSets : Prop :=
  ∀ (s : State) (i : Fin 32) (args : List Word),
    let n := (args.getD 0 0).toNat
    let m := args.getD 1 0
    let becomes (v : State) : Prop :=
      (s.lnk.runState = .halted → s.ord.taken = some ⟨i, .setMode, args, .handed⟩ → exec .setMode s = .next v) ∧
      ∀ c timing, s.lnk.runState ≠ .halted → s.ord = ⟨[], some ⟨i, .setMode, args, .waiting⟩⟩ → Timely s →
        s.lnk.cycle = some c → s.lnk.timing = some timing → c.startAt + timing.rd = s.clock →
        c.due = false → c.started = false → s.comp = none → s.lnk.waiting = [] →
        exec .replyDeadline s = exec .replyDeadline v
    let refused (o : OrderOutcome) (rs : List Word) : Prop := becomes (s.complete o rs)
    (s.lnk.runState ≠ .halted → s.ord.taken = some ⟨i, .setMode, args, .handed⟩ →
      exec .setMode s = .next { s with ord := { s.ord with taken := some ⟨i, .setMode, args, .waiting⟩ } }) ∧
    (n = 0 ∨ 7 < n → refused .badArgument [0x0B, 0]) ∧
    (1 ≤ n → n ≤ 7 → m ≠ 1 → m ≠ 2 → refused .badArgument [0x0C, 0]) ∧
    ∀ k : Stand, n = k.val + 1 → (m = 1 ∨ m = 2) →
      (s.entryOf k = none → refused .badArgument [0x0B, 0]) ∧
      (s.entryOf k ≠ none → m = 2 → s.trp.latch = true → refused .tripped []) ∧
      (s.entryOf k ≠ none → (m = 1 ∨ s.trp.latch = false) →
        ∃ (u : State), becomes (u.complete .ok []) ∧ u = { s with stu := u.stu } ∧
          u.stu = { s.stu with stands := u.stu.stands } ∧
          u.stand k = { s.stand k with requested := if m = 1 then .position else .gauge } ∧
          ∀ j, j ≠ k → u.stand j = s.stand j)

/-- R15, R21: OPERATOR_TRIM is checked, applied, clamped, and completed at once in HALTED; while the link runs it waits, and
the next compute start is that of the state in which it has been checked, applied and completed. That this comes before
LNK's work and the other work of that compute start is the model's inference (log entry 11). -/
def Obligations.OperatorTrimClampsAndSets : Prop :=
  ∀ (s : State) (i : Fin 32) (args : List Word),
    let n := (args.getD 0 0).toNat
    let v := (args.getD 1 0).toInt
    let becomes (v : State) : Prop :=
      (s.lnk.runState = .halted → s.ord.taken = some ⟨i, .operatorTrim, args, .handed⟩ →
        exec .operatorTrim s = .next v) ∧
      ∀ c timing, s.lnk.runState ≠ .halted → s.ord = ⟨[], some ⟨i, .operatorTrim, args, .waiting⟩⟩ → Timely s →
        s.lnk.cycle = some c → s.lnk.timing = some timing → c.startAt + timing.rd = s.clock →
        c.due = false → c.started = false → s.comp = none → s.lnk.waiting = [] →
        exec .replyDeadline s = exec .replyDeadline v
    (s.lnk.runState ≠ .halted → s.ord.taken = some ⟨i, .operatorTrim, args, .handed⟩ →
      exec .operatorTrim s = .next { s with ord := { s.ord with taken := some ⟨i, .operatorTrim, args, .waiting⟩ } }) ∧
    (n = 0 ∨ 7 < n → becomes (s.complete .badArgument [0x0B, 0])) ∧
    ∀ k : Stand, n = k.val + 1 →
      (s.entryOf k = none → becomes (s.complete .badArgument [0x0B, 0])) ∧
      ∀ e, s.entryOf k = some e → ∃ (u : State) (trim : Int),
        becomes (u.complete .ok [BitVec.ofInt 32 trim]) ∧ u = { s with stu := u.stu } ∧
        u.stu = { s.stu with stands := u.stu.stands } ∧ u.stand k = { s.stand k with trim := trim } ∧
        (∀ j, j ≠ k → u.stand j = s.stand j) ∧
        (v.natAbs ≤ e.trimMax → trim = v) ∧ ((e.trimMax : Int) < v → trim = e.trimMax) ∧
        (v < -(e.trimMax : Int) → trim = -(e.trimMax : Int))

/-- R52: NODE_REJOIN is refused for an address of no node and for a node that is not EXCLUDED; else the node becomes REJOINING
with a clean-cycle count of 0 and NEWS.NODE is set. -/
def Obligations.NodeRejoinMakesRejoining : Prop :=
  ∀ (s : State) (i : Fin 32) (args : List Word), let a := (args.getD 0 0).toNat
    s.ord.taken = some ⟨i, .nodeRejoin, args, .handed⟩ →
    (s.lnk.nodes.map (·.address)).Nodup →
    ((∀ n ∈ s.lnk.nodes, n.address.toNat ≠ a) → exec .nodeRejoin s = .next (s.complete .badArgument [0x07, 0])) ∧
    ∀ n ∈ s.lnk.nodes, n.address.toNat = a →
      (n.health ≠ .excluded → exec .nodeRejoin s = .next (s.complete .notExcluded [])) ∧
      (n.health = .excluded → ∃ (u : State), exec .nodeRejoin s = .next (u.complete .ok []) ∧
        u.lnk = { s.lnk with nodes := u.lnk.nodes } ∧
        u.lnk.nodes = s.lnk.nodes.map (fun x =>
          if x.address.toNat = a then { x with health := .rejoining, clean := 0 } else x) ∧
        u.news = { s.news with node := true } ∧ u.trp = s.trp ∧ u.cram = s.cram ∧ u.stu = s.stu ∧ u.ord = s.ord)

/-- R136, R137, R131, R95: TRIP_RESET is refused in HALTED, with a present level cause by its code and location, and with
the latch clear; else it clears latch, first-out, list and integrators, and writes the trip record. -/
def Obligations.TripResetClearsTheLatch : Prop :=
  ∀ (s : State) (i : Fin 32) (args : List Word),
    s.ord.taken = some ⟨i, .tripReset, args, .handed⟩ →
    let refused (o : OrderOutcome) (rs : List Word) : Prop := exec .tripReset s = .next (s.complete o rs)
    (s.lnk.runState = .halted → refused .wrongState []) ∧
    (s.lnk.runState ≠ .halted →
      (s.trp.present.external = true → refused .causePresent [11, 0]) ∧
      (s.trp.present.external = false →
        (s.trp.present.commanded = true → refused .causePresent [12, 0]) ∧
        (s.trp.present.commanded = false →
          (s.trp.present.linkSilent = true → refused .causePresent [13, 0]) ∧
          (s.trp.present.linkSilent = false →
            (∀ k : Stand, s.trp.present.forceLimit.get k = true →
              (∀ j, j < k → s.trp.present.forceLimit.get j = false) →
              refused .causePresent [10, BitVec.ofNat 32 (k.val + 1)]) ∧
            ((∀ k, s.trp.present.forceLimit.get k = false) →
              (s.trp.latch = false → refused .nothingToDo []) ∧
              (s.trp.latch = true → ∃ (u : State), exec .tripReset s = .next (u.complete .ok []) ∧
                u.trp = { s.trp with latch := false, firstOut := none, list := [], unlisted := 0 } ∧
                u.tripOut = true ∧ u.news = { s.news with trip := false } ∧
                (∀ k, u.gapStand k = { s.gapStand k with integrator := 0 }) ∧ u.gap.mi = s.gap.mi ∧
                u.tripNumber = s.tripNumber + 1 ∧ u.cram.readWords 0x00400 65 = tripWords u.tripNumber u.trp ∧
                u.lnk = s.lnk ∧ u.stu = s.stu ∧ u.trk = s.trk ∧ u.evc = s.evc ∧ u.rpt = s.rpt ∧ u.ord = s.ord ∧
                ∀ a, a < 0x00400 ∨ 0x00504 ≤ a → u.cram.read a = s.cram.read a))))))

/-- R144, R143: COUNTER_PROGRAM is refused for a bad counter number, group or action, in this order; else the counter takes
the programming, its value the preset and its flag clear, and the result words show what it held; with group OFF it counts
nothing and is not cleared at a new coil. -/
def Obligations.CounterProgramSetsACounter : Prop :=
  ∀ (s : State) (i : Fin 32) (args : List Word), let a (n : Nat) : Word := args.getD n 0
    let refused (code : Word) : Prop := exec .counterProgram s = .next (s.complete .badArgument [code, 0])
    s.ord.taken = some ⟨i, .counterProgram, args, .handed⟩ →
    (7 < (a 0).toNat → refused 0x0D) ∧
    ∀ n : Fin 8, (a 0).toNat = n.val →
      (4 < (a 1).toNat → refused 0x0E) ∧
      ((a 1).toNat ≤ 4 → 2 < (a 6).toNat → refused 0x0F) ∧
      ((a 1).toNat ≤ 4 → (a 6).toNat ≤ 2 →
        ∃ (u : State) (c : Counter), exec .counterProgram s = .next (u.complete .ok
            [(s.evc.counters.get n).value, if (s.evc.counters.get n).flag then 1 else 0]) ∧
          u = { s with evc := u.evc } ∧ u.evc = { s.evc with counters := s.evc.counters.set n c } ∧
          c.group.code = (a 1).toNat ∧ c.action.code = (a 6).toNat ∧
          c.subevents = (a 2).setWidth 8 &&& (match c.group with
            | .off => 0 | .segment => 0x3F | .link => 0xFF | .gap => 0x1F | .track => 0x0F) ∧
          c.zones = (a 3).setWidth 3 ∧ c.stands = (a 4).setWidth 7 ∧ c.perCoil = (a 5).getLsbD 0 ∧
          c.preset = a 7 ∧ c.value = a 7 ∧ c.flag = false ∧
          (c.group = .off → (∀ e, c.passes e = false) ∧ c.coilCleared = c))

/-- R168, R163, R164: CLOSE_PAGE is refused with no page FILLING or an empty one; else the FILLING page becomes FULL, and the
first FREE page after it, in index order and round from 15 to 0, becomes FILLING; with no page FREE none does. -/
def Obligations.ClosePageFillsAndSearches : Prop :=
  ∀ (s : State) (i : Fin 32) (args : List Word), let p := s.rpt.current
    s.ord.taken = some ⟨i, .closePage, args, .handed⟩ →
    (s.pageState p ≠ pageFilling ∨ s.word (pageBase p + 0x08) = 0 →
      exec .closePage s = .next (s.complete .nothingToDo [])) ∧
    (s.pageState p = pageFilling → s.word (pageBase p + 0x08) ≠ 0 →
      (∀ (d : Nat) (q : Fin 16), 1 ≤ d → d ≤ 15 → q.val = (p.val + d) % 16 → s.pageState q = pageFree →
        (∀ (n : Nat) (x : Fin 16), 1 ≤ n → n < d → x.val = (p.val + n) % 16 → s.pageState x ≠ pageFree) →
        ∃ (u : State), exec .closePage s = .next (u.complete .ok
            [BitVec.ofNat 32 p.val, s.word (pageBase p + 0x04), BitVec.ofNat 32 q.val]) ∧
          u.pageState p = pageFull ∧ u.pageState q = pageFilling ∧
          u.word (pageBase q + 0x04) = s.rpt.lastSeq + 1 ∧ u.word (pageBase q + 0x08) = 0 ∧
          u.word (pageBase q + 0x0C) = s.rpt.pendingLost ∧ u.word (pageBase q + 0x10) = 0xFFFFFFFF ∧
          u.rpt = { s.rpt with current := q, lastSeq := s.rpt.lastSeq + 1, pendingLost := 0 } ∧
          u.news = { s.news with page := true } ∧ u.ord = s.ord ∧
          ∀ a, ¬ (pageBase p ≤ a ∧ a < pageBase p + 4) → ¬ (pageBase q ≤ a ∧ a < pageBase q + 0x14) →
            u.cram.read a = s.cram.read a) ∧
      ((∀ q, s.pageState q ≠ pageFree) →
        ∃ (u : State), exec .closePage s = .next (u.complete .ok
            [BitVec.ofNat 32 p.val, s.word (pageBase p + 0x04), 0xFFFFFFFF]) ∧
          u.pageState p = pageFull ∧ u.rpt = s.rpt ∧ u.news = { s.news with page := true } ∧ u.ord = s.ord ∧
          ∀ a, ¬ (pageBase p ≤ a ∧ a < pageBase p + 4) → u.cram.read a = s.cram.read a))

/-! ## The link cycle -/

/-- R22, R23, R28, R35: a cycle start with no RUN_STATE order waiting: the cycle before ends and its log is published, the
number rises by 1, the nodes not EXCLUDED are awaited, and the SYNC frame is sent. -/
def Obligations.CycleStartOpensCycle : Prop :=
  ∀ (s : State) (c : Cycle) (timing : Timing),
    let n := s.lnk.cycleNumber + 1
    Settled s → s.lnk.cycle = some c → s.lnk.timing = some timing → c.startAt + timing.cyc = s.clock →
    s.lnk.runState ≠ .halted → (∀ t target, s.ord.taken = some t → t.kind ≠ .runState target) →
    exec .cycleStart s = .next { s with
      lnk := { s.lnk with
        cycleNumber := n
        cycle := some ⟨n, s.clock, (s.lnk.nodes.filter (fun x => x.health != .excluded)).map (·.address), [], [],
          false, false, false, false, false⟩
        waiting := s.lnk.waiting ++ (if c.started then [] else [c])
        published := c.log
        publishedOverflow := c.overflow }
      linkOut := s.linkOut ++ [syncFrame n s.lnk.runState s.trp.latch] }

/-- R26, R27, R35: a REPLY with a correct CRC, of the length of its node's role, the node's first in the cycle and before
compute start, is GOOD: charged with its data and logged; while awaited nodes still lack a GOOD nothing else happens. A
cycle start due at the moment of the arrival comes first (the model's inference, log entry 2). -/
def Obligations.GoodReplyIsChargedAndLogged : Prop :=
  ∀ (dt : Nat) (bs : List Byte) (s : State) (c : Cycle) (n : Node), let u := (s.elapse dt).intoCycle
    let offset := u.clock - c.startAt
    let c' := { c with
      charges := c.charges ++ [⟨n.address, .good, offset, some (parseReply n.role bs)⟩]
      log := if c.log.length < 32 then c.log ++ [⟨n.address, .good, offset⟩] else c.log
      overflow := c.overflow || decide (32 ≤ c.log.length) }
    u.resetting = none → FlushLaw u → u.lnk.cycle = some c → c.started = false →
    u.nodeAt (bs.getD 1 0) = some n → crcOk bs = true → bs.getD 0 0 = 0x52 → bs.length = n.role.replyLength →
    (∀ x ∈ c.charges, x.address = n.address → x.verdict ≠ .form ∧ x.verdict ≠ .good ∧ x.verdict ≠ .duplicate) →
    ((∃ a ∈ c'.awaited, ∀ x ∈ c'.charges, x.address = a → x.verdict ≠ .good) →
      exec (.reply dt bs) s = .next { u with lnk := { u.lnk with cycle := some c' } }) ∧
    (n.address ∈ c.awaited → (∀ a ∈ c'.awaited, ∃ x ∈ c'.charges, x.address = a ∧ x.verdict = .good) →
      (u.comp ≠ none ∨ u.lnk.waiting ≠ [] →
        exec (.reply dt bs) s = .next { u with lnk := { u.lnk with cycle := some { c' with due := true } } }) ∧
      (u.comp = none → u.lnk.waiting = [] →
        ∃ t x, exec (.reply dt bs) s = .next t ∧ t.comp = some x ∧ x.number = c.number ∧ x.cycleAt = c.startAt ∧
          x.startTime = u.time ∧ t.lnk.cycle = some { c' with due := true, started := true }))

/-- R26, R27, R35, R37, R38, R39, R191: every verdict but GOOD: a frame of fewer than three octets is CRC and charged to no
node (the address logged is a free value, log entry 8); a wrong CRC is CRC, charged to the node of its address if the table
has it; with a correct CRC an address of no node is UNKNOWN, an arrival after compute start LATE, one behind a FORM, GOOD or
DUPLICATE of its node DUPLICATE, a wrong first octet or length FORM. Each is logged; before compute start those of a node
are charged; one of a node is captured while the arm word reads ARMED; each raises a LINK event, with its node's stand and
no zone, and a trip latched by it is settled; and MISSING is captured at compute start, the first node in table order. An
arrival outside a cycle changes nothing. That the received address of a three-octet frame with a correct CRC is its second
octet is the model's (log entry 19). So is it, by inference, that a cycle start due at the moment of the arrival comes first
(log entry 2). -/
def Obligations.BadVerdictsAreChargedLoggedAndCaptured : Prop :=
  (∀ (dt : Nat) (bs : List Byte) (s : State), let u := (s.elapse dt).intoCycle
    u.resetting = none →
    (u.lnk.cycle = none → exec (.reply dt bs) s = .next u) ∧
    ∀ (c : Cycle), u.lnk.cycle = some c →
      let offset := u.clock - c.startAt
      let bad (v : Verdict) (sub : Subevent) (code : Word) (shown : Byte) (who : Option Node) (free : Nat) : Prop :=
        let judged : State := { u with
          lnk := { u.lnk with cycle := some { c with
            charges := c.charges ++ (if c.started then [] else who.toList.map (fun n => ⟨n.address, v, offset, none⟩))
            log := if c.log.length < 32 then c.log ++ [⟨shown, v, offset⟩] else c.log
            overflow := c.overflow || decide (32 ≤ c.log.length) } }
          freeCount := u.freeCount + free }
        ∃ (w : State), exec (.reply dt bs) s =
            .next ((w.raise ⟨.link, sub, none, who.bind (·.stand)⟩ u.time).settleTrip) ∧
          (who = none ∨ u.armWord ≠ armArmed → w = judged) ∧
          ∀ n, who = some n → u.armWord = armArmed →
            w = { judged with
              cram := w.cram, news := { u.news with capture := true }, irq := w.irq, irqSignals := w.irqSignals } ∧
            w.cram.readWords 0x00100 5 = [armHeld, BitVec.ofNat 32 n.address.toNat, code,
              BitVec.ofNat 32 c.number.toNat, BitVec.ofNat 32 offset] ∧
            ∀ x, x < 0x00100 ∨ 0x00114 ≤ x → w.cram.read x = u.cram.read x
      let a := bs.getD 1 0
      let before (n : Node) : Prop :=
        ∃ x ∈ c.charges, x.address = n.address ∧ (x.verdict = .form ∨ x.verdict = .good ∨ x.verdict = .duplicate)
      (bs.length < 3 → bad .crc .crc 2 (Config.shortFrameAddress u.freeCount) none 1) ∧
      (3 ≤ bs.length → crcOk bs = false → u.nodeAt a = none → bad .crc .crc 2 a none 0) ∧
      (3 ≤ bs.length → crcOk bs = true → u.nodeAt a = none → bad .unknown .unknown 6 a none 0) ∧
      ∀ n, 3 ≤ bs.length → u.nodeAt a = some n →
        (crcOk bs = false → bad .crc .crc 2 a (some n) 0) ∧
        (crcOk bs = true → c.started = true → bad .late .late 5 a (some n) 0) ∧
        (crcOk bs = true → c.started = false → before n → bad .duplicate .duplicate 4 a (some n) 0) ∧
        (crcOk bs = true → c.started = false → ¬ before n →
          bs.getD 0 0 ≠ 0x52 ∨ bs.length ≠ n.role.replyLength → bad .form .form 3 a (some n) 0)) ∧
  ∀ (s : State) (c : Cycle) (timing : Timing) (before after : List Node) (n : Node),
    Settled s → s.lnk.cycle = some c → s.lnk.timing = some timing → c.startAt + timing.rd = s.clock →
    c.due = false → c.started = false → s.comp = none → s.lnk.waiting = [] →
    s.lnk.nodes = before ++ n :: after → (∀ x ∈ c.charges, x.address ≠ n.address) →
    (∀ m ∈ before, ∃ x ∈ c.charges, x.address = m.address) → s.armWord = armArmed →
    ∃ t, exec .replyDeadline s = .next t ∧ t.news.capture = true ∧
      t.cram.readWords 0x00100 5 = [armHeld, BitVec.ofNat 32 n.address.toNat, 7,
        BitVec.ofNat 32 c.number.toNat, BitVec.ofNat 32 timing.rd]

/-- R28, R27, R30, R47, R54, R31, R39, R51: T_rd passes before the awaited nodes have replied: compute start comes at once,
fixes every node's result and its compute end, or waits for the computation in progress. NEWS.NODE is set where a node's
health changes; a LINK event goes to EVC for each node without an arrival, then for each that becomes DEGRADED or EXCLUDED,
with its stand and no zone, these last in node table order (the model's choice, log entry 26). That a first-out which a LINK
counter makes of these events stands against NODE_LOST, LINK_SILENT and FORCE_LIMIT of the same compute start, whose order
R133 leaves open, is the model's too (log entry 11). -/
def Obligations.ReplyDeadlineStartsComputation : Prop :=
  ∀ (s : State) (c : Cycle) (timing : Timing),
    let nodes := s.lnk.nodes.map (fun n => n.atComputeStart s.lnk.warn c.number (c.chargesOf n))
    let missing : List Event := (s.lnk.nodes.filter (fun n => (c.chargesOf n).isEmpty)).map
      (fun n => ⟨.link, .missing, none, n.stand⟩)
    let changed := (s.lnk.nodes.zip nodes).filter (fun x => x.1.health != x.2.health)
    let changes : List Event := changed.filterMap (fun x =>
      if x.2.health = .degraded then some ⟨.link, .toDegraded, none, x.2.stand⟩
      else if x.2.health = .excluded then some ⟨.link, .toExcluded, none, x.2.stand⟩ else none)
    let e : State := (missing ++ changes).foldl (fun v ev => v.raise ev s.time) s
    Settled s → s.lnk.cycle = some c → s.lnk.timing = some timing → c.startAt + timing.rd = s.clock →
    c.due = false → c.started = false →
    (s.comp ≠ none ∨ s.lnk.waiting ≠ [] →
      exec .replyDeadline s = .next { s with lnk := { s.lnk with cycle := some { c with due := true } } }) ∧
    (s.comp = none → s.lnk.waiting = [] →
      ∃ t x, exec .replyDeadline s = .next t ∧ t.comp = some x ∧ x.number = c.number ∧ x.cycleAt = c.startAt ∧
        x.startTime = s.time ∧ x.late = c.offsetPassed ∧ x.working = false ∧
        x.endAt = s.clock + (16 + 12 * (allStands.filter s.inService).length + 6 * x.crossings + 40 * x.switches) ∧
        t.lnk.cycle = some { c with due := true, started := true } ∧ t.lnk.nodes = nodes ∧
        t.lnk.silence = (if nodes.any (fun n => n.result == some true) then 0 else min (s.lnk.silence + 1) 3) ∧
        t.stu.switchCharge = 0 ∧ t.clock = s.clock ∧ t.time = s.time ∧ t.linkOut = s.linkOut ∧
        t.news.node = (s.news.node || !changed.isEmpty) ∧
        (∀ n, let o := e.evc.counters.get n
          o.group = .link → t.evc.counters.get n = o ∨ o.perCoil = true ∧ t.evc.counters.get n = { o with value := 0 }) ∧
        (e.trp.latch = true → t.trp.latch = true ∧ t.trp.firstOut = e.trp.firstOut) ∧
        (∀ k, (t.gapStand k).committed = (s.gapStand k).committed ∧ (t.gapStand k).rPrev = (s.gapStand k).rPrev) ∧
        t = State.computeStart { s with lnk := { s.lnk with cycle := some { c with due := true, started := true } } } c)

/-- R12 to R14, R17 to R19, R85, R86, R93 to R95, R101: what a compute start leaves in the stand records and the
computation: with no SET_MODE or OPERATOR_TRIM waiting, each stand takes its bite change, its lock-on, its effective mode,
its deviation count, and what the law forms from these; a stand that switches within the computation loses lock-on, trim and
integrator and forms the rows of R94 for its new schedule. `m` is the state with the nodes as LNK settles them. Two
inferences of the model's own: what a switch changes stands from the compute start on (log entry 22), and run state,
requested mode and the latch of the deviation test are those from before LNK's work (log entry 11). What the law and the
deviation test do by the model's choice is named where they are stated (log entries 8, 18, 25). -/
def Obligations.ComputeStartSettlesTheStands : Prop :=
  ∀ (s : State) (c : Cycle) (timing : Timing),
    let m : State := { s with lnk := { s.lnk with
      nodes := s.lnk.nodes.map (fun n => n.atComputeStart s.lnk.warn c.number (c.chargesOf n)) } }
    Settled s → s.lnk.cycle = some c → s.lnk.timing = some timing → c.startAt + timing.rd = s.clock →
    c.due = false → c.started = false → s.comp = none → s.lnk.waiting = [] →
    (∀ t, s.ord.taken = some t → t.kind ≠ .setMode ∧ t.kind ≠ .operatorTrim) →
    ∃ t x, exec .replyDeadline s = .next t ∧ t.comp = some x ∧
      ∀ k, let r := s.stand k
        let g := s.gapStand k
        let e := m.entryOf k
        let gap := m.reading .gap (some k)
        let force := m.reading .force (some k)
        let bite := (m.biteOf k).1
        let off := (m.biteOf k).2.2 = .tailOff
        let fresh := gap.2 == .fresh && force.2 == .fresh
        let hgm : Option Nat := match e, gap.1, force.1 with
          | some e, some v, some f => some (gaugemeter e v f)
          | _, _, _ => none
        let hLock := if off then none else g.hLock
        let locks := ∃ e' h, e = some e' ∧ hgm = some h ∧ 0 < e'.nLock ∧ bite = .loaded ∧ fresh = true ∧ hLock = none
        let count := if off then 0 else r.lockCount
        let sum := if off then 0 else r.lockSum
        let dev := deviationStep e bite s.trp.latch g.rPrev gap force.1 g.devCount
        let left := t.stand k
        let kept := t.gapStand k
        let input (mode : Effective) (lock : Option Int) : LawInput :=
          { sched := m.schedOf k, entry := e, hgm := hgm, mode := mode, trim := r.trim, hLock := lock
            integrator := if off then 0 else g.integrator, mi := s.gap.mi, trk := s.trk, deviation := dev.2 }
        left.bite = bite ∧ kept.devCount = dev.1 ∧ kept.rPrev = g.rPrev ∧ kept.committed = g.committed ∧
        ∃ (count' sum' : Nat) (lock' : Option Int),
          (¬ locks → count' = count ∧ sum' = sum ∧ lock' = hLock) ∧
          (locks → count' = count + 1 ∧ sum' = sum + hgm.getD 0 ∧
            lock' = e.bind (fun e => if e.nLock ≤ count + 1 then (meanOf sum' e.nLock).map Int.ofNat else none)) ∧
          left.effective = effectiveMode s.lnk.runState (e.map (·.nLock)) r.requested bite count' fresh ∧
          (x.switched.get k = false →
            left.use = r.use ∨ left.use = .active) ∧
          (x.switched.get k = false →
            left.debounce = (m.biteOf k).2.1 ∧ left.lockCount = count' ∧ left.lockSum = sum' ∧ left.trim = r.trim ∧
            kept.hLock = lock' ∧ kept.integrator = (if off then 0 else g.integrator) ∧
            x.formed.get k = formBefore (input left.effective lock') k) ∧
          (x.switched.get k = true →
            left.debounce = 0 ∧ left.lockCount = 0 ∧ left.lockSum = 0 ∧ left.trim = 0 ∧ kept.hLock = none ∧
            kept.integrator = 0 ∧
            ∃ h, s.stu.pending = some h ∧ t.schedOf k = some h.sched ∧
              x.formed.get k = formSwitched (formBefore (input left.effective lock') k) h.sched k)

/-- R57, R102, R120, R121: the detections of a compute start: LINK_SILENT stands while the silence count is 3, FORCE_LIMIT
by its table, and one that joins is taken by TRP, as are GAP_DEVIATION at a count raised to N_dev and NODE_LOST of a GAP or
FORCE node that becomes EXCLUDED at a LOADED stand, or of an EXCLUDED GAP node at its stand's head-on; no other node hands
NODE_LOST. A cause is taken as the first-out or into the list, unless the list is full. That the deviation test reads the
latch from before LNK's work is the model's inference (log entry 11); that it hands its cause at N_dev exactly (log entry
25) and does not count beyond 255 or with F "none" (log entries 18, 25) is the model's too. -/
def Obligations.ComputeStartDetectsItsCauses : Prop :=
  (∀ (s : State) (c : Cycle) (timing : Timing),
    let nodes := s.lnk.nodes.map (fun n => n.atComputeStart s.lnk.warn c.number (c.chargesOf n))
    let m : State := { s with lnk := { s.lnk with nodes := nodes } }
    let silent := 2 ≤ s.lnk.silence ∧ ∀ n ∈ nodes, n.result ≠ some true
    Settled s → s.lnk.cycle = some c → s.lnk.timing = some timing → c.startAt + timing.rd = s.clock →
    c.due = false → c.started = false → s.comp = none → s.lnk.waiting = [] →
    (∀ t, s.ord.taken = some t → t.kind ≠ .setMode ∧ t.kind ≠ .operatorTrim) →
    ∃ t, exec .replyDeadline s = .next t ∧
      let taken (cause : Cause) : Prop := t.trp.latch = true ∧
        ((∃ f, t.trp.firstOut = some f ∧ f.cause.same cause = true) ∨ (∃ e ∈ t.trp.list, e.1.same cause = true) ∨
          15 ≤ t.trp.list.length)
      (t.trp.present.linkSilent = true ↔ silent) ∧
      (s.trp.present.linkSilent = false → silent → taken .linkSilent) ∧
      (∀ k, let here := t.trp.present.forceLimit.get k
        let was := s.trp.present.forceLimit.get k
        let force := m.reading .force (some k)
        (m.entryOf k = none ∨ force.1 = none → here = false) ∧
        (was = false → here = true → taken (.forceLimit k)) ∧
        ∀ e f, m.entryOf k = some e → force.1 = some f →
          (force.2 = .fresh → here = decide (e.fMax < f)) ∧ (force.2 ≠ .fresh → here = was)) ∧
      (∀ k e, m.entryOf k = some e →
        let dev := deviationStep (some e) (m.biteOf k).1 s.trp.latch (s.gapStand k).rPrev (m.reading .gap (some k))
          (m.reading .force (some k)).1 (s.gapStand k).devCount
        dev.2 = true → dev.1 = e.nDev → taken (.gapDeviation k)) ∧
      ∀ old new k, (old, new) ∈ s.lnk.nodes.zip nodes → new.stand = some k → new.health = .excluded →
        (m.biteOf k).1 = .loaded →
        ((new.role = .gap ∨ new.role = .force) ∧ old.health ≠ .excluded) ∨
          (new.role = .gap ∧ (m.biteOf k).2.2 = .headOn) →
        taken (.nodeLost new.address k)) ∧
  ∀ (s : State) (sn : Table 7 StandSnap) (old new : Node) (cause : Cause),
    s.losesNode sn old new = some cause ↔
      ∃ k, cause = .nodeLost new.address k ∧ new.stand = some k ∧ new.health = .excluded ∧
        (((new.role = .gap ∨ new.role = .force) ∧ old.health ≠ .excluded ∧ (s.stand k).bite = .loaded) ∨
          (new.role = .gap ∧ (sn.get k).change = .headOn))

/-- R31, R86, R96 to R99, R183, R76, R130, R28: a compute end: in time, the references and, with the latch clear and not set
within the computation, the integrators commit; late, both are discarded; the GAP events go to EVC with stand and zone; a
flush is made that a trip latched within the computation, or now by a GAP counter, owes; the status area is written with the
state this leaves; then a compute start that has waited for this end begins, of the oldest ended cycle that waits, else of
the cycle in progress. With no flush owed and none waiting nothing else changes. That the events come by increasing stand,
those of a stand in the order of R99's rows, and that the flush comes before the status write and the next compute start, is
the model's (log entry 15); so is that the tracking state is judged now and not at the latching, and that the flush is made
also when TRIP_RESET has cleared the latch in the meantime (log entry 14). Three clauses more are the model's: that
integrators do not commit where a TRIP_RESET has cleared a latch set in the same computation (R98's second row over R96 and
R137, log entry 15), that LATE_RESULT is raised for the stands of rows 1, 4 and 5 of R94 too (log entry 25), and that the
nodes of a compute start whose own cycle has ended take their echo lag from that cycle (log entry 23). -/
def Obligations.ComputeEndCommitsOrDiscards : Prop :=
  ∀ (s : State) (x : Computation),
    let events : List Event := (List.finRange 7).flatMap (fun k =>
      let f := x.formed.get k
      ((if f.stepLimited then [Subevent.stepLimited] else []) ++ (if f.authority then [Subevent.authority] else []) ++
        (if f.range then [Subevent.range] else []) ++ (if f.deviation then [Subevent.deviation] else []) ++
        if x.late && f.inService then [Subevent.lateResult] else []).map (fun sub => ⟨.gap, sub, f.zone, some k⟩))
    let e : State := events.foldl (fun v ev => v.raise ev x.startTime) s
    let owed : Prop := s.trk.tripFlush = true ∨ (s.trp.latch = false ∧ e.trp.latch = true)
    let ended (u : State) : Prop := u.comp = none ∧
      (∀ k, let f := x.formed.get k
        let i := if x.late || s.trp.latch || s.trk.tripFlush then (s.gapStand k).integrator else f.candidate
        u.gapStand k = { s.gapStand k with
          committed := if x.late then (s.gapStand k).committed else some f.ref
          integrator := (u.gapStand k).integrator
          hLock := (u.gapStand k).hLock
          computed := f.computed
          formed := some f.ref
          late := x.late } ∧
        ((u.gapStand k).hLock = (s.gapStand k).hLock ∧ (u.gapStand k).integrator = i ∨
          owed ∧ s.trk.state ≠ .lost ∧ s.stu.pending ≠ none ∧ (u.gapStand k).hLock = none ∧ (u.gapStand k).integrator = 0)) ∧
      u.lnk.cycle = s.lnk.cycle.map (fun c => if c.startAt = x.cycleAt then { c with ended := true } else c) ∧
      (∀ n, (e.evc.counters.get n).group = .gap → u.evc.counters.get n = e.evc.counters.get n) ∧
      (¬ owed ∨ e.trp.latch = true → u.trp.latch = e.trp.latch ∧ u.trp.firstOut = e.trp.firstOut) ∧
      u.trk.tripFlush = false ∧
      u.hif = { s.hif with statusNumber := s.hif.statusNumber + 1 } ∧
      u.cram.readWords 0x01000 564 = statusWords u u.hif.statusNumber ∧
      u.word 0x01000 = u.hif.statusNumber ∧ u.word 0x01004 = u.hif.statusNumber ∧
      (¬ owed →
        u = { s with
          comp := none, gap := { s.gap with stands := u.gap.stands }, lnk := { s.lnk with cycle := u.lnk.cycle }
          hif := u.hif, cram := u.cram, evc := e.evc, trp := e.trp, tripNumber := e.tripNumber, news := e.news
          irq := e.irq, irqSignals := e.irqSignals } ∧
        u.cram.read 0x01008 = BitVec.ofNat 8 s.lnk.runState.code ∧ u.cram.read 0x01009 = (if s.trp.latch then 1 else 0) ∧
        u.cram.read 0x0100A = s.lnk.cycleNumber.extractLsb' 0 8 ∧
        u.cram.read 0x0100B = s.lnk.cycleNumber.extractLsb' 8 8 ∧
        u.word 0x0102C = s.trk.created ∧ u.word 0x01030 = s.rpt.reported ∧ u.word 0x01034 = s.rpt.lost ∧
        ∀ a, a < 0x01000 ∨ 0x02000 ≤ a → u.cram.read a = e.cram.read a) ∧
      (owed → s.trk.state = .lost →
        u = { e with
          comp := none, gap := { s.gap with stands := u.gap.stands }, lnk := { e.lnk with cycle := u.lnk.cycle }
          trk := { e.trk with tripFlush := false }, hif := u.hif, cram := u.cram }) ∧
      (owed → s.trk.state ≠ .lost →
        u.trk = { s.trk with
          state := .lost, segs := [], creation := none, q := u.trk.q, qGauge := 0, windows := u.trk.windows
          tripFlush := false } ∧
        (∀ k, u.trk.q.get k = 0) ∧
        u.rpt.reported + u.rpt.lost = s.rpt.reported + s.rpt.lost + BitVec.ofNat 32 s.trk.segs.length ∧
        (s.trk.segs ≠ [] → ∃ l, u.gap.last = some l ∧ l.kind = .flush ∧ l.applied = false) ∧
        u = { s with
          comp := none, gap := u.gap, lnk := { s.lnk with cycle := u.lnk.cycle, runState := u.lnk.runState }
          stu := u.stu, trk := u.trk, evc := u.evc, trp := u.trp, tripNumber := u.tripNumber, tripOut := u.tripOut
          rpt := u.rpt, hif := u.hif, cram := u.cram, news := u.news, irq := u.irq, irqSignals := u.irqSignals })
    let begins (u t : State) (c : Cycle) : Prop := ∃ y, t.comp = some y ∧ y.number = c.number ∧ y.cycleAt = c.startAt ∧
      y.startTime = s.time ∧ y.late = c.offsetPassed ∧ y.working = false ∧
      y.endAt = s.clock + (16 + 12 * (allStands.filter u.inService).length + 6 * y.crossings + 40 * y.switches) ∧
      t.lnk.nodes = s.lnk.nodes.map (fun n => n.atComputeStart s.lnk.warn c.number (c.chargesOf n)) ∧
      t.clock = s.clock ∧ t.time = s.time ∧ t.linkOut = s.linkOut
    Settled s → s.comp = some x → x.endAt = s.clock →
    ∃ u t, exec .computeEnd s = .next t ∧ ended u ∧
      (s.lnk.runState = .halted ∨ (s.lnk.waiting = [] ∧ ∀ c, s.lnk.cycle = some c → c.due = true → c.started = true) →
        t = u) ∧
      (∀ c rest, s.lnk.runState ≠ .halted → s.lnk.waiting = c :: rest →
        t = State.computeStart { u with lnk := { u.lnk with waiting := rest } } c ∧
        begins u t c ∧ t.lnk.waiting = rest ∧ t.lnk.cycle = u.lnk.cycle) ∧
      (∀ c, s.lnk.runState ≠ .halted → s.lnk.waiting = [] → u.lnk.cycle = some c → c.due = true → c.started = false →
        t = State.computeStart { u with lnk := { u.lnk with cycle := some { c with started := true } } } c ∧
        begins u t c ∧ t.lnk.waiting = [] ∧ t.lnk.cycle = some { c with started := true })

/-- R32, R33, R34, R100, 11.7: at T_cmd the SET frame is sent, with the cycle's number, the trip and HELD flags and an entry
for each GAP node, and each entry sent becomes R_prev; a computation of this cycle still in progress is late from now on,
and one that ends at T_cmd itself ends first. That a stand which switched in the computation still in progress has the entry
of its compute start is the model's inference (log entry 22); the S_open of a dummied stand, and what a committed OPEN_FULL
sends in RUN, within the limits of the stand, are free values (log entry 8). That the end at T_cmd comes before the frame is
built is read from R32 (log entry 15). -/
def Obligations.CommandOffsetSendsTheSetFrame : Prop :=
  ∀ (s : State) (c : Cycle) (timing : Timing),
    let gaps := s.lnk.nodes.filter (fun n => n.role == .gap)
    let trip : Byte := if s.trp.latch then 1 else 0
    let held : Byte := if s.lnk.runState = .ready ∨ c.ended = false then 2 else 0
    let hasGap (k : Stand) : Bool := s.lnk.nodes.any (fun n => n.role == .gap && n.stand == some k)
    let sched (k : Stand) : Option Schedule := match s.comp with
      | some x => if x.switched.get k then x.setup.get k else s.schedOf k
      | none => s.schedOf k
    let sent (r : Ref) : Option Int := match r with | .um v => some v | .openFull => none
    Settled s → s.lnk.cycle = some c → s.lnk.timing = some timing → c.startAt + timing.cmd = s.clock →
    c.offsetPassed = false →
    (∀ x, s.comp = some x → x.cycleAt = c.startAt → x.endAt = s.clock →
      ∃ u, exec .computeEnd s = .next u ∧ (Settled u → exec .commandOffset s = exec .commandOffset u)) ∧
    ((∀ x, s.comp = some x → x.cycleAt = c.startAt → s.clock < x.endAt) →
    (∀ n ∈ s.lnk.nodes, n.role = .gap → n.stand.isSome = true) →
    ∃ (t : State) (entry : Stand → Option Ref), exec .commandOffset s = .next t ∧
      t.linkOut = s.linkOut ++ [withCrc ([0x53] ++ halfBytes c.number ++ [trip + held, BitVec.ofNat 8 gaps.length] ++
        gaps.flatMap (fun n => n.address :: wordBytes (setValue (entry (n.stand.getD 0)))))] ∧
      (∀ k, let e := (sched k).bind (·.entries.get k)
        (sched k = none → entry k = some .openFull) ∧
        (sched k ≠ none → e = none → ∃ v : Int, 0 ≤ v ∧ v ≤ 99999 ∧ entry k = some (.um v)) ∧
        ∀ e', e = some e' →
          (s.trp.latch = true → entry k = some (.um e'.sOpen)) ∧
          (s.trp.latch = false → s.lnk.runState ≠ .run → entry k = none) ∧
          (s.trp.latch = false → s.lnk.runState = .run → (s.gapStand k).committed = none →
            entry k = some (.um e'.sOpen)) ∧
          (s.trp.latch = false → s.lnk.runState = .run → (s.gapStand k).committed = some .openFull →
            (e'.sMin : Int) ≤ e'.sMax → ∃ v : Int, (e'.sMin : Int) ≤ v ∧ v ≤ e'.sMax ∧ entry k = some (.um v)) ∧
          (s.trp.latch = false → s.lnk.runState = .run → ∀ r, (s.gapStand k).committed = some (.um r) →
            ((e'.sMin : Int) ≤ r → r ≤ e'.sMax → entry k = some (.um r)) ∧
            (r < e'.sMin → entry k = some (.um e'.sMin)) ∧
            ((e'.sMin : Int) ≤ e'.sMax → (e'.sMax : Int) < r → entry k = some (.um e'.sMax)))) ∧
      (∀ k, t.gapStand k = { s.gapStand k with
        rPrev := if hasGap k then (entry k).bind sent else none }) ∧
      t = { s with
        lnk := { s.lnk with cycle := some { c with offsetPassed := true } }
        comp := s.comp.map (fun x => if x.cycleAt = c.startAt then { x with late := true } else x)
        linkOut := t.linkOut, gap := { s.gap with stands := t.gap.stands }, freeCount := t.freeCount })

/-! ## The line TRIP_IN -/

/-- R118, R117, R129 to R132, R44, R20, R81, R76: TRIP_IN low makes EXTERNAL present; with the latch clear it latches, with
EXTERNAL as first-out, and outside a computation tracking is flushed at once; with the latch set it is only listed.
TRIP_IN high makes EXTERNAL leave and does not touch the latch. -/
def Obligations.TripInIsALevelCause : Prop :=
  ∀ (dt : Nat) (s : State), let u := s.elapse dt
    u.resetting = none → LevelLaw u → FlushLaw u →
    (u.tripIn = false → exec (.tripInLow dt) s = .next u) ∧ (u.tripIn = true → exec (.tripInHigh dt) s = .next u) ∧
    (u.tripIn = true → u.trp.latch = false →
      ∃ t, exec (.tripInLow dt) s = .next t ∧ t.tripIn = false ∧ t.trp.present.external = true ∧
        t.trp.latch = true ∧ t.trp.firstOut = some ⟨.external, u.time, u.lnk.cycleNumber, u.lnk.runState, none⟩ ∧
        t.tripOut = false ∧ t.news.trip = true ∧ t.trp.armed = false ∧ (∀ k, t.trp.feed.get k = none) ∧
        t.lnk = { u.lnk with runState := if u.lnk.runState = .run then .ready else u.lnk.runState } ∧
        (∀ k, (t.stand k).requested = .position) ∧ (∀ k, t.trk.windows.get k = none) ∧
        t.trk.created = u.trk.created ∧
        (u.comp = none → u.trk.state ≠ .lost → t.trk.state = .lost ∧ t.trk.segs = [] ∧ t.trk.creation = none ∧
          (∀ k, t.trk.q.get k = 0) ∧ t.trk.qGauge = 0) ∧
        (∀ x, u.comp = some x → t.comp = some x ∧ t.trk = { u.trk with windows := t.trk.windows, tripFlush := true })) ∧
    (u.tripIn = true → u.trp.latch = true →
      ∃ t, exec (.tripInLow dt) s = .next t ∧
        t = { u with tripIn := false, trp := t.trp, tripNumber := u.tripNumber + 1, cram := t.cram } ∧
        t.trp.latch = true ∧ t.trp.firstOut = u.trp.firstOut ∧
        t.trp.present = { u.trp.present with external := true } ∧
        t.cram.readWords 0x00400 65 = tripWords t.tripNumber t.trp ∧
        (∀ a, a < 0x00400 ∨ 0x00504 ≤ a → t.cram.read a = u.cram.read a) ∧
        ((∀ e ∈ u.trp.list, e.1 ≠ .external) → (∀ f, u.trp.firstOut = some f → f.cause ≠ .external) →
          u.trp.list.length < 15 → t.trp.list = u.trp.list ++ [(.external, u.time)])) ∧
    (u.tripIn = false →
      ∃ t, exec (.tripInHigh dt) s = .next t ∧
        t = { u with
          tripIn := true
          trp := { u.trp with present := { u.trp.present with external := false } }
          tripNumber := u.tripNumber + 1
          cram := t.cram } ∧
        t.cram.readWords 0x00400 65 = tripWords t.tripNumber t.trp ∧
        ∀ a, a < 0x00400 ∨ 0x00504 ≤ a → t.cram.read a = u.cram.read a)

/-! ## The blocks' own arithmetic -/

/-- 00 Rounding: the rounded quotient is the nearest integer, and on an exact half the one farther from zero. -/
def Obligations.RoundingIsToNearestHalfAway : Prop :=
  ∀ (n : Int) (d : Nat), 0 < d → let q := roundDiv n d
    2 * (n - q * d) ≤ d ∧ -(d : Int) ≤ 2 * (n - q * d) ∧
    (2 * (n - q * d) = d → n < 0) ∧ (2 * (n - q * d) = -(d : Int) → 0 < n)

/-- R47 to R49, R52, R53, R29, R30: health, E, clean-cycle count and value of a node at a compute start; a good valid reply
of a node in use brings a fresh value, with the strip-present of an EXIT_GAUGE node, and every other cycle holds the value
kept. The echo lag is taken in the cycle whose compute start it is (the model's choice where that has ended, log entry 23).
That a node without a value reads the mark NONE is the model's inference (log entry 18). -/
def Obligations.NodeHealthAndValue : Prop :=
  ∀ (n : Node) (w : Nat) (number : Half) (cs : List Charge), NodeOk w n → 1 ≤ w → w ≤ 127 →
    let m := n.atComputeStart w number cs
    let good := m.result = some true
    let graded (e : Nat) : Prop := m.errors = e ∧ m.clean = 0 ∧
      m.health = if e < w then .active else if e ≤ 127 then .warned else .degraded
    let used := n.health ≠ .excluded ∧ n.health ≠ .rejoining
    let keeps : Prop := m.value = n.value ∧ m.strip = n.strip ∧ m.held = min (n.held + 1) 65535 ∧
      m.mark = if n.value = none then .none else .held
    (m.result = some true ∨ m.result = some false) ∧
    (m.result = some true ↔ ∃ x, cs = [x] ∧ x.verdict = .good ∧ x.data.isSome = true) ∧
    (used →
      (good → graded (n.errors - 1)) ∧
      (¬ good → n.errors ≤ 247 → graded (n.errors + 8)) ∧
      (¬ good → 248 ≤ n.errors → m.health = .excluded ∧ m.errors = 255)) ∧
    (n.health = .excluded → m.health = .excluded ∧ m.errors = 255 ∧ m.clean = 0) ∧
    (n.health = .rejoining →
      (¬ good → m.health = .rejoining ∧ m.clean = 0 ∧ m.errors = 255) ∧
      (good → n.clean < 127 → m.health = .rejoining ∧ m.clean = n.clean + 1 ∧ m.errors = 255) ∧
      (good → n.clean = 127 → m.health = .active ∧ m.clean = 0 ∧ m.errors = 0)) ∧
    (¬ good ∨ ¬ used → keeps) ∧
    ∀ x d, cs = [x] → x.verdict = .good → x.data = some d →
      let valid := d.valueValid = true ∧ d.localFault = false ∧
        ((n.role = .gap ∨ n.role = .exitGauge) → d.value ≤ 99999)
      m.nodeReady = d.nodeReady ∧ m.localFault = d.localFault ∧ m.lastGood = some x.offset ∧
      m.echo = some (d.echo, number - 1 - d.echo) ∧
      (used → valid → m.mark = .fresh ∧ m.value = some d.value ∧ m.held = 0 ∧
        m.strip = if n.role = .exitGauge then d.stripPresent else n.strip) ∧
      (¬ valid → keeps)

/-- R13: the bite update of a stand: two fresh force values in a row at or above F_on make a head-on, two below F_off a
tail-off; a held force changes nothing. R17: the table of effective modes. R101, R56: the gap-deviation test of a stand;
that a count of 255 stays, and raises no DEVIATION (log entry 18), and that a stand whose F is "none" keeps its count (log
entry 25), are the model's. -/
def Obligations.BiteModeAndDeviationTables : Prop :=
  (∀ (s : State) (k : Stand), let r := s.stand k
    let on := ((s.entryOf k).map (·.fOn)).getD 500
    let off := ((s.entryOf k).map (·.fOff)).getD 200
    ((s.reading .force (some k)).2 ≠ .fresh → s.biteOf k = (r.bite, r.debounce, .none)) ∧
    ∀ f, s.reading .force (some k) = (some f, .fresh) →
      (r.bite = .empty → f < on → s.biteOf k = (.empty, 0, .none)) ∧
      (r.bite = .empty → on ≤ f → r.debounce = 0 → s.biteOf k = (.empty, 1, .none)) ∧
      (r.bite = .empty → on ≤ f → r.debounce = 1 → s.biteOf k = (.loaded, 0, .headOn)) ∧
      (r.bite = .loaded → off ≤ f → s.biteOf k = (.loaded, 0, .none)) ∧
      (r.bite = .loaded → f < off → r.debounce = 0 → s.biteOf k = (.loaded, 1, .none)) ∧
      (r.bite = .loaded → f < off → r.debounce = 1 → s.biteOf k = (.empty, 0, .tailOff))) ∧
  (∀ (now : RunState) (nLock : Option Nat) (requested : Requested) (bite : Bite) (count : Nat) (fresh : Bool),
    let mode := effectiveMode now nLock requested bite count fresh
    (now ≠ .run ∨ nLock = none ∨ requested = .position → mode = .position) ∧
    ∀ n, now = .run → nLock = some n → requested = .gauge →
      (bite = .empty → mode = .gaugeWait) ∧
      (bite = .loaded → 0 < n → count < n → mode = .locking) ∧
      (bite = .loaded → (n = 0 ∨ n ≤ count) → fresh = false → mode = .gaugeHeld) ∧
      (bite = .loaded → (n = 0 ∨ n ≤ count) → fresh = true → mode = .gauge)) ∧
  ∀ (e : Option StandEntry) (bite : Bite) (latch : Bool) (rPrev : Option Int) (gap : Option Nat × Mark) (force : Option Nat)
    (count : Nat),
    let r := deviationStep e bite latch rPrev gap force count
    (e = none ∨ bite = .empty ∨ latch = true ∨ rPrev = none → r = (0, false)) ∧
    ∀ e' p, e = some e' → bite = .loaded → latch = false → rPrev = some p →
      (gap.2 ≠ .fresh ∨ force = none → r = (count, false)) ∧
      ∀ v, gap = (some v, .fresh) → force ≠ none →
        (((v : Int) - p).natAbs ≤ e'.devLim → r = (0, false)) ∧
        (e'.devLim < ((v : Int) - p).natAbs → count < 255 → r = (count + 1, true)) ∧
        (e'.devLim < ((v : Int) - p).natAbs → count = 255 → r = (255, false))

/-- R87 to R94, R99: what the law forms for a stand. In GAUGE: the deviation from its reference, a step of at most d_step
that works against it, an integrator within ±I_max that is set back at the actuator limits, a reference within the limits;
in LOCKING and GAUGE_HELD the same reference with a step of 0 and the integrator as it is; the feedforward of the segment in
the bite; in POSITION and GAUGE_WAIT S_set + trim with the candidate 0; and the five rows of R94: no S or F, dummied,
without a schedule, switched into service, switched out of it. R99: the zone its events carry, that of the segment in the
bite, at an entry stand that of the next creation from the open record, none without these and in LOST; that an entry stand
takes V_seg, V_bar and V_tail of its own schedule, also where the record belongs to another, is the model's (log entry 25).
That POSITION, GAUGE_WAIT and the row with no S or F publish I' as the integrator while the candidate is 0 is the model's
inference (log entry 18); the S_open of a dummied stand is a free value (log entry 8). That the stands of rows 1, 4 and 5
stay in service for LATE_RESULT is the model's inference (log entry 25). -/
def Obligations.GapLawFormsTheReference : Prop :=
  ∀ (x : LawInput) (k : Stand), let f := formBefore x k
    let clamped (e : StandEntry) (r : Int) (ref : Ref) (range : Bool) : Prop := ∃ v : Int, ref = .um v ∧
      (e.sMin : Int) ≤ v ∧ v ≤ e.sMax ∧ (range = false → v = r) ∧
      (range = true → (v = e.sMax ∧ (e.sMax : Int) < r) ∨ (v = e.sMin ∧ r < e.sMin))
    let quiet (f : Formed) : Prop := f.stepLimited = false ∧ f.authority = false
    let absent : Computed := ⟨none, none, none, none, none, none⟩
    let nothing (f : Formed) : Prop :=
      f.computed = absent ∧ f.candidate = 0 ∧ quiet f ∧ f.range = false ∧ f.deviation = false ∧ f.zone = none
    let opened (f : Formed) : Prop := ∃ v : Int, f.ref = .um v ∧ 0 ≤ v ∧ v ≤ 99999
    (x.sched = none → f.ref = .openFull ∧ nothing f ∧ f.inService = false) ∧
    (∀ c, x.sched = some c → x.entry = none → opened f ∧ nothing f ∧ f.inService = false) ∧
    (∀ c e, x.sched = some c → x.entry = some e → e.sMin < e.sMax →
      f.inService = true ∧
      (x.hgm = none → clamped e (e.sSet + x.trim) f.ref f.range ∧ quiet f ∧ f.candidate = 0 ∧ f.deviation = false ∧
        f.computed = ⟨none, none, none, some x.integrator, none, none⟩) ∧
      ∀ h, x.hgm = some h → f.deviation = x.deviation ∧
        let dev : Int := h - (if e.nLock = 0 then (e.hTgt : Int) else x.hLock.getD e.hTgt)
        (x.mode = .position ∨ x.mode = .gaugeWait →
          clamped e (e.sSet + x.trim) f.ref f.range ∧ quiet f ∧ f.candidate = 0 ∧
          f.computed = ⟨some h, some dev, some 0, some x.integrator, none, none⟩) ∧
        (x.mode = .locking ∨ x.mode = .gaugeHeld → ∃ ff m : Int,
          clamped e (e.sSet + x.trim + x.integrator + ff + m) f.ref f.range ∧ quiet f ∧ f.candidate = x.integrator ∧
          f.computed = ⟨some h, some dev, some 0, some x.integrator, some ff, some m⟩ ∧ ff.natAbs ≤ e.iMax ∧
          ff = x.trk.feedforwardOf c e k ∧ 2 * (256 * m - x.mi * e.share).natAbs ≤ 256) ∧
        (x.mode = .gauge → x.integrator.natAbs ≤ e.iMax → ∃ u i' ff m ref : Int,
          let sum := (e.sSet : Int) + x.trim + i' + ff + m
          f.computed = ⟨some h, some dev, some u, some f.candidate, some ff, some m⟩ ∧ f.ref = .um ref ∧
          u.natAbs ≤ e.dStep ∧ (0 < dev → u ≤ 0) ∧ (dev < 0 → 0 ≤ u) ∧
          (f.stepLimited = false → 2 * (1024 * u + dev * e.kg).natAbs ≤ 1024) ∧
          (f.stepLimited = true → u.natAbs = e.dStep) ∧
          i'.natAbs ≤ e.iMax ∧ (f.authority = false → i' = x.integrator + u) ∧
          (f.authority = true → i'.natAbs = e.iMax) ∧
          f.candidate.natAbs ≤ e.iMax ∧ ff.natAbs ≤ e.iMax ∧ ff = x.trk.feedforwardOf c e k ∧
          2 * (256 * m - x.mi * e.share).natAbs ≤ 256 ∧
          (e.sMin : Int) ≤ ref ∧ ref ≤ e.sMax ∧
          (f.range = false → ref = sum ∧ f.candidate = i') ∧
          (f.range = true → (ref = e.sMax ∧ (e.sMax : Int) < sum ∧ f.candidate = if 0 < u then x.integrator else i') ∨
            (ref = e.sMin ∧ sum < e.sMin ∧ f.candidate = if u < 0 then x.integrator else i')))) ∧
    (∀ c e, x.sched = some c → let ff := x.trk.feedforwardOf c e k
      (x.trk.state = .lost ∨ c.prevOf k = none ∨
        (∀ g ∈ x.trk.segs, g.coilId = c.coilId → g.list.getLast?.map (·.1) ≠ c.prevOf k) → ff = 0) ∧
      ∀ before g after p pe (thickness : Option Nat), x.trk.state ≠ .lost → x.trk.segs = before ++ g :: after →
        c.prevOf k = some p →
        c.entries.get p = some pe → g.coilId = c.coilId → g.list.getLast? = some (p, thickness) →
        (∀ y ∈ before, y.coilId = c.coilId → y.list.getLast?.map (·.1) ≠ some p) →
        (thickness = none → ff = 0) ∧
        ∀ v, thickness = some v → let drive : Int := ((v : Int) - pe.hTgt) * e.kf
          ff.natAbs ≤ e.iMax ∧
          (2 * (1024 * ff + drive).natAbs ≤ 1024 ∨ (ff = e.iMax ∧ drive < 0) ∨ (ff = -(e.iMax : Int) ∧ 0 < drive))) ∧
    (∀ c e, x.sched = some c → x.entry = some e →
      (x.trk.state = .lost → f.zone = none) ∧
      (x.trk.state ≠ .lost → c.entryStand = some k →
        (x.trk.creation = none → f.zone = none) ∧
        ∀ r, x.trk.creation = some r →
          (r.segCount < 4 → f.zone = some .head) ∧
          (4 ≤ r.segCount → c.vTail ≤ c.vBar →
            f.zone = some (if c.vBar < r.volume + c.vSeg + c.vTail then .tail else .body))) ∧
      (x.trk.state ≠ .lost → c.entryStand ≠ some k →
        (c.prevOf k = none ∨
          (∀ g ∈ x.trk.segs, g.coilId = c.coilId → g.list.getLast?.map (·.1) ≠ c.prevOf k) → f.zone = none) ∧
        ∀ before g after p, x.trk.segs = before ++ g :: after → c.prevOf k = some p → g.coilId = c.coilId →
          g.list.getLast?.map (·.1) = some p →
          (∀ y ∈ before, y.coilId = c.coilId → y.list.getLast?.map (·.1) ≠ some p) → f.zone = some g.zone)) ∧
    ∀ d, let g := formSwitched f d k
      g.inService = f.inService ∧ g.zone = f.zone ∧ quiet g ∧ g.candidate = 0 ∧ g.deviation = false ∧
      (∀ e, d.entries.get k = some e → e.sMin < e.sMax → clamped e e.sSet g.ref g.range ∧ g.computed = f.computed) ∧
      (d.entries.get k = none → opened g ∧ g.computed = absent ∧ g.range = false)

/-- R106, R107, R110, R111, R113, R114: the quality of a removed segment, and the monitor update: made for a BODY segment
with a reading, no flag, the latch clear and a schedule active, and for no other; MI stays within ±MI_max. Outside a
computation the gauge node counts as EXCLUDED as it is now, inside one as its compute start left it (State.gaugeOut), by the
model's inference (log entry 14). -/
def Obligations.MonitorUpdateOfARemoval : Prop :=
  ∀ (s : State) (g : Segment) (kind : Removal) (f : Figures) (h : HeldSchedule),
    s.figuresFor g.coilId = some f → s.stu.active = some h → MonitorLaw s →
    let a := assess s.gaugeOut (some f) g
    let t := s.monitor g a kind
    let applies := kind ≠ .flush ∧ g.zone = .body ∧ s.gaugeOut = false ∧ g.gaugeCount ≠ 0 ∧ g.degraded = false ∧
      g.trip = false ∧ s.trp.latch = false
    (a.quality = .noReading ↔ a.hx = none) ∧ (s.gaugeOut = true ∨ g.gaugeCount = 0 ↔ a.hx = none) ∧
    (∀ hx, a.hx = some hx → a.em = some (hx - f.hFin) ∧
      2 * (g.gaugeCount * hx - g.gaugeSum).natAbs ≤ g.gaugeCount ∧
      (a.quality = .inBand ↔ (hx - f.hFin).natAbs ≤ f.tol) ∧ (a.quality = .thick ↔ (f.tol : Int) < hx - f.hFin) ∧
      (a.quality = .thin ↔ hx - f.hFin < -(f.tol : Int))) ∧
    (¬ applies → t.gap.mi = s.gap.mi ∧ ∃ l, t.gap.last = some l ∧ l.applied = false ∧ l.reason ≠ .none ∧ l.change = 0) ∧
    (applies → ∃ (em raw : Int) (l : LastAssessment), a.em = some em ∧ raw = s.gap.mi - roundDiv (em * f.km) 1024 ∧
      (raw.natAbs ≤ h.sched.miMax → t.gap.mi = raw) ∧ ((h.sched.miMax : Int) < raw → t.gap.mi = h.sched.miMax) ∧
      (raw < -(h.sched.miMax : Int) → t.gap.mi = -(h.sched.miMax : Int)) ∧
      t.gap.last = some l ∧ l.applied = true ∧ l.reason = .none ∧ l.id = g.id ∧ l.miAfter = t.gap.mi ∧
      l.change = t.gap.mi - s.gap.mi ∧ (l.clamped = true ↔ t.gap.mi ≠ raw)) ∧
    t = { s with gap := { s.gap with mi := t.gap.mi, last := t.gap.last } } ∧ t.gap.mi.natAbs ≤ h.sched.miMax

/-- R146 to R153: every counter takes an event, in increasing counter number; a counter passes an event on group, subevent,
zone and stand; a counted event adds 1; at 2³² − 1 the value becomes 0, the flag is set, and the action is taken: nothing,
NEWS.COUNTER, or a detection of COUNTER. -/
def Obligations.CountersCountAndOverflow : Prop :=
  ∀ (s : State) (e : Event) (time : Word) (n : Fin 8), let c := s.evc.counters.get n
    let passes := c.group = e.group ∧ c.group ≠ .off ∧ c.subevents.getLsbD e.sub.bit = true ∧
      (∀ z, e.zone = some z → c.zones.getLsbD z.bit = true) ∧ (e.zone = none → c.zones ≠ 0) ∧
      (e.group = .segment ∨ ∀ k, e.stand = some k → c.stands.getLsbD k.val = true)
    let wrapped := { s with evc := { s.evc with counters := s.evc.counters.set n { c with value := 0, flag := true } } }
    let t := State.countOne e time s n
    s.raise e time = (List.finRange 8).foldl (State.countOne e time) s ∧ (¬ passes → t = s) ∧
    (passes → c.value ≠ 0xFFFFFFFF →
      t = { s with evc := { s.evc with counters := s.evc.counters.set n { c with value := c.value + 1 } } }) ∧
    (passes → c.value = 0xFFFFFFFF →
      (c.action = .none → t = wrapped) ∧
      (c.action = .notice → t = { wrapped with news := { s.news with counter := true }, irq := t.irq, irqSignals := t.irqSignals }) ∧
      (c.action = .trip → t.evc = wrapped.evc ∧ t.trp.latch = true ∧
        (s.trp.latch = true → t.trp.firstOut = s.trp.firstOut) ∧
        (s.trp.latch = false → t.trp.firstOut = some ⟨.counter n, time, s.lnk.cycleNumber, s.lnk.runState, none⟩)))

/-- R67, R70, R76, R154: a crossing at the entry point creates a segment from the creation record, whose CREATED event, with
its zone and the entry stand, EVC takes after the clearing of a new coil id, its list the mean of the record and its sums,
counts and NO_GAUGE flag 0, or, with 128 in the table, is refused and
tracking enters LOST. -/
def Obligations.EntryCrossingCreatesASegment : Prop :=
  ∀ (s : State) (k : Stand) (c : Schedule) (tail : Bool) (r : Creation),
    s.trk.creation = some r →
    let t := s.create k c tail
    let volume := r.volume + c.vSeg
    (s.trk.segs.length < 128 → ∃ (g : Segment) (v : State),
      t = v.raise ⟨.track, .created, some g.zone, some k⟩ s.time ∧
      v = { s with
        trk := { s.trk with
          segs := s.trk.segs ++ [g]
          nextId := s.trk.nextId + 1
          created := s.trk.created + 1
          creation := some { r with sum := 0, count := 0, segCount := r.segCount + 1, volume := volume } }
        evc := v.evc
        comp := s.comp.map (fun x => { x with crossings := x.crossings + 1 }) } ∧
      v.evc.lastCoil = some r.coilId ∧
      (∀ n, let o := s.evc.counters.get n
        v.evc.counters.get n =
          if s.evc.lastCoil ≠ some r.coilId ∧ o.perCoil = true ∧ o.group ≠ .off then { o with value := 0 } else o) ∧
      g.id = s.trk.nextId ∧ g.coilId = r.coilId ∧ g.pathLen = r.pathLen ∧ g.reused = r.reused ∧ g.trip = false ∧
      (g.degraded = true ↔ s.trk.state = .degraded) ∧ g.list = [(k, meanOf r.sum r.count)] ∧
      g.sum = 0 ∧ g.count = 0 ∧ g.gaugeSum = 0 ∧ g.gaugeCount = 0 ∧ g.noGauge = false ∧
      (tail = true → g.zone = .tail) ∧ (tail = false → r.segCount < 4 → g.zone = .head) ∧
      (tail = false → 4 ≤ r.segCount → c.vTail ≤ c.vBar → c.vBar < volume + c.vTail → g.zone = .tail) ∧
      (tail = false → 4 ≤ r.segCount → c.vTail ≤ c.vBar → volume + c.vTail ≤ c.vBar → g.zone = .body)) ∧
    (128 ≤ s.trk.segs.length → s.trk.state ≠ .lost →
      t.trk.state = .lost ∧ t.trk.segs = [] ∧ t.trk.creation = none ∧ (∀ j, t.trk.q.get j = 0) ∧ t.trk.qGauge = 0 ∧
      t.trk.nextId = s.trk.nextId ∧ t.trk.created = s.trk.created ∧ t.evc.lastCoil = s.evc.lastCoil)

/-- R63, R66, R69, R71, R73: one cycle at a stand point: it counts while tracking is NORMAL or DEGRADED, the stand LOADED and its
h_gm present; volume and h_gm are added, the oldest segment of the coil that waits at the point crosses it at the threshold,
a surplus or a crossing with no such segment is a slip, which degrades tracking and raises SLIP with the stand and the zone
of the segment; the entry point adds to the creation record and creates. The zone of a slip at the entry point, that of the
segment just created, and none where there is no segment, is the model's inference (log entry 12). -/
def Obligations.StandPointsCountAndCross : Prop :=
  ∀ (sn : Table 7 StandSnap) (s : State) (k : Stand) (c : Schedule) (e : StandEntry), let p := sn.get k
    p.sched = some c → p.entry = some e →
    let t := State.countStand sn s k
    let slipped (v : State) (zone : Option Zone) : State :=
      let w := v.raise ⟨.track, .slip, zone, some k⟩ s.time
      { w with trk := { w.trk with state := .degraded } }
    let tracks := s.trk.state = .normal ∨ s.trk.state = .degraded
    let reaches (g : Segment) : Prop :=
      g.coilId = c.coilId ∧ ∃ j, c.prevOf k = some j ∧ g.list.getLast?.map (·.1) = some j
    let thr := c.vSeg * 1000000
    (¬ tracks ∨ (s.stand k).bite = .empty → t = s) ∧
    (tracks → (s.stand k).bite = .loaded → p.hgm = none → t = { s with trk := { s.trk with state := .degraded } }) ∧
    ∀ h, tracks → (s.stand k).bite = .loaded → p.hgm = some h →
      let q := s.trk.q.get k + h * p.travel
      let state := if p.speed.2 = .fresh then s.trk.state else .degraded
      let left := if q - thr < thr then q - thr else thr - 1
      let at' (v : Nat) (state : TrackState) (segs : List Segment) : Trk :=
        { s.trk with state := state, q := s.trk.q.set k v, segs := segs }
      (p.entryPoint = false →
        (∀ before g after, s.trk.segs = before ++ g :: after → reaches g → (∀ y ∈ before, ¬ reaches y) →
          let g1 := { g with sum := g.sum + h, count := g.count + 1 }
          let g2 := { g with list := g.list ++ [(k, meanOf (g.sum + h) (g.count + 1))], sum := 0, count := 0 }
          (q < thr → t = { s with trk := at' q state (before ++ g1 :: after) }) ∧
          (thr ≤ q →
            let v : State := { s with
              trk := at' left state (before ++ g2 :: after)
              comp := s.comp.map (fun x => { x with crossings := x.crossings + 1 }) }
            t = if thr ≤ q - thr then slipped v (some g.zone) else v)) ∧
        ((∀ y ∈ s.trk.segs, ¬ reaches y) →
          (q < thr → t = { s with trk := at' q state s.trk.segs }) ∧
          (thr ≤ q → t = slipped { s with trk := at' (thr - 1) state s.trk.segs } none))) ∧
      (p.entryPoint = true → s.trk.creation = none →
        (q < thr → t = { s with trk := at' q state s.trk.segs }) ∧
        (thr ≤ q → t = slipped { s with trk := at' (thr - 1) state s.trk.segs } none)) ∧
      (p.entryPoint = true → ∀ r, s.trk.creation = some r →
        let r1 := { r with sum := r.sum + h, count := r.count + 1 }
        (q < thr → t = { s with trk := { at' q state s.trk.segs with creation := some r1 } }) ∧
        (thr ≤ q → s.trk.segs.length < 128 →
          let v := State.create { s with trk := { at' left state s.trk.segs with creation := some r1 } } k c false
          v.trk.segs.length = s.trk.segs.length + 1 ∧ v.trk.q = s.trk.q.set k left ∧
          t = if thr ≤ q - thr then slipped v (v.trk.segs.getLast?.map (·.zone)) else v) ∧
        (thr ≤ q → 128 ≤ s.trk.segs.length →
          t.trk.state = .lost ∧ t.trk.segs = [] ∧ t.trk.creation = none ∧ t.trk.created = s.trk.created))

/-- R62, R64, R65, R66, R69, R73, R104: one cycle at the gauge point: it counts while tracking is NORMAL or DEGRADED and strip is
present at the gauge; volume is added at the gauge speed, a fresh reading goes to the oldest segment when that has crossed
its whole path, which at the threshold is removed; that the threshold is the one of the schedule stand 7 uses is the model's
inference (log entry 24). A surplus or a crossing with no such segment is a slip, which degrades tracking and raises SLIP
without a stand, with the zone of the segment just removed or none (the model's inference, log entry 12). TRK's whole work:
the bite changes, STU's switch test (R9) when there was one, the drop of strip-present, the gauge point and the stand points
up to stand 1, the head windows. That speed-lost and its flush come before all these (log entry 24), that in step 1 the
head-ons close windows, then the tail-offs, HEAD_LOST first, then bars start, then windows open, each by increasing stand
(log entry 12), and that the head windows are advanced by increasing span number (log entry 24), is the model's. -/
def Obligations.GaugePointCountsAndRemoves : Prop :=
  (∀ (sn : Table 7 StandSnap) (s : State),
    let t := s.countGauge sn
    let slipped (v : State) (zone : Option Zone) : State :=
      let w := v.raise ⟨.track, .slip, zone, none⟩ s.time
      { w with trk := { w.trk with state := if w.trk.state = .normal then .degraded else w.trk.state } }
    let tracks := s.trk.state = .normal ∨ s.trk.state = .degraded
    (s.nodeFor .exitGauge none = none ∨ ¬ tracks → t = s) ∧
    ∀ n, s.nodeFor .exitGauge none = some n →
      (n.value = none ∨ n.strip = false → t = s) ∧
      ∀ h c state, tracks → n.value = some h → n.strip = true → (sn.get 6).sched = some c →
        let thr := c.vSeg * 1000000
        let q := s.trk.qGauge + h * travelOf s.trk.gaugeSpeed s.cycleTime
        let slow := ∃ k, c.lastStand = some k ∧ (s.stand k).bite = .loaded ∧ (sn.get k).speed.2 ≠ .fresh
        let left := if q - thr < thr then q - thr else thr - 1
        let at' (v : Nat) (state : TrackState) (segs : List Segment) : Trk :=
          { s.trk with state := state, qGauge := v, segs := segs }
        (slow → state = .degraded) → (¬ slow → state = s.trk.state) →
        (∀ g rest, s.trk.segs = g :: rest → g.list.length = g.pathLen →
          let g1 := if n.mark = .fresh ∧ g.gaugeCount < 65535
            then { g with gaugeSum := g.gaugeSum + h, gaugeCount := g.gaugeCount + 1 } else g
          (q < thr → t = { s with trk := at' q state (g1 :: rest) }) ∧
          (thr ≤ q →
            let v := State.removeOldest { s with
              trk := at' left state (g1 :: rest)
              comp := s.comp.map (fun x => { x with crossings := x.crossings + 1 }) } .gauge false s.time
            t = if thr ≤ q - thr then slipped v (some g.zone) else v)) ∧
        ((∀ g rest, s.trk.segs = g :: rest → g.list.length ≠ g.pathLen) →
          (q < thr → t = { s with trk := at' q state s.trk.segs }) ∧
          (thr ≤ q → t = slipped { s with trk := at' (thr - 1) state s.trk.segs } none))) ∧
  (∀ (sn : Table 7 StandSnap) (s : State),
    (∀ k, (sn.get k).change = .none ∧ (sn.get k).entryHeadOn = false) → s.trk.speedLost = false →
    (∀ k, (sn.get k).entry.isSome = true → s.excluded .speed (some k) = false) →
    let speed := match (sn.get 6).sched.bind (·.lastStand) with
      | some k => if (s.stand k).bite = .loaded then (sn.get k).exitSpeed else s.trk.gaugeSpeed
      | none => s.trk.gaugeSpeed
    let v := State.countGauge { s with trk := { s.trk with gaugeSpeed := speed } } sn
    let v := ([6, 5, 4, 3, 2, 1, 0] : List Stand).foldl (State.countStand sn) v
    s.track sn false = ([0, 1, 2, 3, 4, 5, 6] : List Stand).foldl (State.advanceWindow sn) v) ∧
  (∀ (sn : Table 7 StandSnap) (s : State) (drop : Bool),
    let stands : List Stand := [0, 1, 2, 3, 4, 5, 6]
    let heads := stands.filter (fun k => (sn.get k).change == .headOn)
    let tails := stands.filter (fun k => (sn.get k).change == .tailOff)
    let begins := stands.filter (fun k => (sn.get k).entryHeadOn)
    let v := s.presentSpeedLost sn
    let speed := match (sn.get 6).sched.bind (·.lastStand) with
      | some k => if (s.stand k).bite = .loaded then (sn.get k).exitSpeed else s.trk.gaugeSpeed
      | none => s.trk.gaugeSpeed
    let v := heads.foldl State.closeInto { v with trk := { v.trk with gaugeSpeed := speed } }
    let v := tails.foldl (fun v k => v.trackTailOff (sn.get k) k) v
    let v := begins.foldl (fun v k => ((sn.get k).sched.map (fun c => v.startBar c k (sn.get k).reuse)).getD v) v
    let v := heads.foldl (fun v k => match (sn.get k).sched, (sn.get k).entry with
      | some c, some e => v.openWindow c e k
      | _, _ => v) v
    let v := if heads ++ tails = [] then v else v.switchTest
    let v := if drop then v.stripDrop else v
    let v := (stands.reverse).foldl (State.countStand sn) (v.countGauge sn)
    s.track sn drop = stands.foldl (State.advanceWindow sn) v) ∧
  ∀ (s : State) (sn : StandSnap) (k : Stand),
    let t := s.loseHead k
    t.trk.windows.get k = none ∧ s.trackTailOff sn k = t.trackTailOff sn k

/-- R68, R105, R108, R109, R114, R77, R9: a removal: the oldest segment leaves the table with its NO_GAUGE and TRIP flags,
is assessed, taken by the monitor, counted under its subevent and reported, the last of its coil as such; the figures of a
schedule in neither slot leave with its last segment; STU makes its switch test; and a table left empty without a creation
record makes NORMAL or DEGRADED IDLE. Which segments and figures belong to a schedule is told by its serial, the model's own
number (log entry 10). How the gauge node is judged outside a computation (log entry 14), and that a segment without figures
is NO_READING (log entry 20), are the model's inferences. -/
def Obligations.RemovalGoesToEveryBlock : Prop :=
  (∀ (s : State) (g : Segment) (rest : List Segment) (kind : Removal) (trip : Bool) (time : Word) (last : Bool),
    let t := s.removeOldest kind trip time
    let r := { g with noGauge := decide (g.gaugeCount = 0), trip := trip || g.trip }
    let a := assess s.gaugeOut (s.figuresFor g.coilId) r
    let taken : State := State.monitor { s with trk := { s.trk with segs := rest } } r a kind
    let w := (taken.raise ⟨.segment, segmentSub r a.quality, some g.zone, none⟩ time).report r a last time
    let held : Bool := rest.any (fun x => x.serial == g.serial) || s.trk.creation.any (fun c => c.serial == g.serial) ||
      s.stu.active.any (fun h => h.sched.serial == g.serial) || s.stu.pending.any (fun h => h.sched.serial == g.serial)
    let figures := if held then s.gap.figures else s.gap.figures.filter (fun f => f.serial != g.serial)
    let v : State := State.switchTest { w with gap := { w.gap with figures := figures } }
    s.trk.segs = g :: rest →
    (last = true ↔ (∀ x ∈ rest, x.coilId ≠ g.coilId) ∧ ∀ c, s.trk.creation = some c → c.coilId ≠ g.coilId) →
    t = { v with trk := { v.trk with state :=
      if rest = [] ∧ s.trk.creation = none ∧ (s.trk.state = .normal ∨ s.trk.state = .degraded) then .idle
      else s.trk.state } } ∧
    t.trk.segs = rest ∧ t.trk.creation = s.trk.creation ∧
    t.evc = (s.raise ⟨.segment, segmentSub r a.quality, some g.zone, none⟩ time).evc ∧
    (∃ l, t.gap.last = some l ∧ l.id = g.id ∧ l.coilId = g.coilId ∧ l.kind = kind ∧ l.zone = g.zone ∧
      l.quality = a.quality ∧ l.hx = a.hx ∧ l.em = a.em)) ∧
  ∀ (g : Segment) (q : Quality),
    (g.trip = true → segmentSub g q = .tripFlushed) ∧
    (g.trip = false → g.degraded = true → segmentSub g q = .degradedSeg) ∧
    (g.trip = false → g.degraded = false → (q, segmentSub g q) ∈
      [(Quality.noReading, Subevent.noReading), (.inBand, .inBand), (.thick, .thick), (.thin, .thin)])

/-- R71, R72, R74, R75, R76, R58: the ends of a bar: a tail-off at a later stand forces the segments that have reached it across,
each further one a slip; one at the entry stand closes the creation record, into a TAIL segment if it has counted; an entry
head-on starts a bar, but in LOST while speed-lost is presented; a drop of strip-present removes the segments that have
crossed their whole path; and speed-lost first presented brings LOST. A forced crossing that slips raises SLIP, with the
stand and the segment's zone, and a reuse REUSED with the entry stand, this also where LOST keeps the bar from being tracked
(the model's inference, log entry 12). -/
def Obligations.BarsBeginAndEnd : Prop :=
  (∀ (s : State) (sn : StandSnap) (k : Stand) (c : Schedule) (e : StandEntry),
    sn.sched = some c → sn.entry = some e → s.trk.windows.get k = none →
    let t := s.trackTailOff sn k
    let reaches (g : Segment) : Bool :=
      g.coilId == c.coilId && (c.prevOf k).isSome && g.list.getLast?.map (·.1) == c.prevOf k
    let reached := s.trk.segs.filter reaches
    let slip (v : State) (g : Segment) : State :=
      let w := v.raise ⟨.track, .slip, some g.zone, some k⟩ s.time
      { w with trk := { w.trk with state := if w.trk.state = .normal then .degraded else w.trk.state } }
    (sn.entryPoint = false →
      let v := (reached.drop 1).foldl slip { s with
        trk := { s.trk with segs := s.trk.segs.map (fun g => if reaches g
          then { g with list := g.list ++ [(k, if g.count = 0 then none else meanOf g.sum g.count)], sum := 0, count := 0 }
          else g) }
        comp := s.comp.map (fun x => { x with crossings := x.crossings + reached.length }) }
      t = { v with trk := { v.trk with q := s.trk.q.set k 0 } } ∧
      t.trk.state = if 2 ≤ reached.length ∧ s.trk.state = .normal then .degraded else s.trk.state) ∧
    (sn.entryPoint = true →
      (s.trk.creation = none ∨ (∃ r, s.trk.creation = some r ∧ r.count = 0) →
        t = { s with trk := { s.trk with creation := none, q := s.trk.q.set k 0 } }) ∧
      ∀ r, s.trk.creation = some r → 1 ≤ r.count →
        (s.trk.segs.length < 128 → let u := s.create k c true
          u.trk.segs.length = s.trk.segs.length + 1 ∧
          t = { u with trk := { u.trk with creation := none, q := s.trk.q.set k 0 } }) ∧
        (128 ≤ s.trk.segs.length → s.trk.state ≠ .lost →
          t.trk.state = .lost ∧ t.trk.segs = [] ∧ t.trk.creation = none ∧ ∀ j, t.trk.q.get j = 0))) ∧
  (∀ (s : State) (c : Schedule) (k : Stand) (reuse : Bool),
    let told (v : State) : State := if reuse then v.raise ⟨.track, .reused, none, some k⟩ s.time else v
    (s.trk.state = .lost → s.trk.speedLost = true → s.startBar c k reuse = told s) ∧
    (s.trk.state ≠ .lost ∨ s.trk.speedLost = false → s.startBar c k reuse = told { s with trk := { s.trk with
      state := .normal
      creation := some ⟨c.coilId, c.serial, ((List.finRange 7).filter c.inService).length, reuse, 0, 0, 0, 0⟩ } })) ∧
  (∀ (s : State), let t := s.stripDrop
    let crossed (g : Segment) : Bool := decide (g.list.length = g.pathLen)
    let n := (s.trk.segs.takeWhile crossed).length
    t.trk.segs = s.trk.segs.dropWhile crossed ∧ t.trk.qGauge = 0 ∧ t.trk.creation = s.trk.creation ∧
    t.comp.map (·.crossings) = s.comp.map (fun x => x.crossings + n) ∧
    t.rpt.reported + t.rpt.lost = s.rpt.reported + s.rpt.lost + BitVec.ofNat 32 n ∧
    (n ≠ 0 → ∃ l, t.gap.last = some l ∧ l.kind = .stripEnd)) ∧
  ∀ (s : State) (sn : Table 7 StandSnap), let t := s.presentSpeedLost sn
    let lost := ∃ k, (sn.get k).entry.isSome = true ∧ s.excluded .speed (some k) = true
    (t.trk.speedLost = true ↔ lost) ∧
    (¬ lost ∨ s.trk.speedLost = true → t = { s with trk := { s.trk with speedLost := t.trk.speedLost } }) ∧
    (lost → s.trk.speedLost = false → s.trk.state ≠ .lost →
      t.trk.state = .lost ∧ t.trk.segs = [] ∧ t.trk.creation = none ∧ (∀ j, t.trk.q.get j = 0) ∧ t.trk.qGauge = 0)

/-- R78 to R80, R122, R129: head windows: a head-on with the checks armed opens one towards the next stand in service; the
head-on of its target closes it, as EARLY_HEAD when the travel falls short of the span by more than win; the cycle's travel
is added, and beyond the span by more than win with the target EMPTY it closes with HEAD_LOST, as it does at the tail-off
of its own stand. -/
def Obligations.HeadWindowsOpenAndClose : Prop :=
  ∀ (s : State) (k : Stand),
    let closed : State := { s with trk := { s.trk with windows := s.trk.windows.set k none } }
    let loses (t : State) : Prop :=
      t.trk.windows.get k = none ∧ t.trp.latch = true ∧
      (s.trp.latch = false → (∀ j, t.trk.windows.get j = none) ∧ t.trp.firstOut =
        some ⟨.headLost k, s.time, s.lnk.cycleNumber, s.lnk.runState, some (s.figuresOf k)⟩) ∧
      (s.trp.latch = true → t.trk = closed.trk ∧ t.trp.firstOut = s.trp.firstOut)
    (∀ c e, (c.nextOf k = none ∨ s.trp.armed = false → s.openWindow c e k = s) ∧
      ∀ j, c.nextOf k = some j → s.trp.armed = true →
        s.openWindow c e k = { s with trk := { s.trk with windows := s.trk.windows.set k (some ⟨j, e.dSpan, e.win, 0⟩) } }) ∧
    (∀ j, (∀ n, (s.evc.counters.get n).group ≠ .track) → let t := s.closeInto j
      t = { s with trk := { s.trk with windows := t.trk.windows } } ∧
      ∀ i, t.trk.windows.get i =
        if (s.trk.windows.get i).any (fun w => w.target == j) then none else s.trk.windows.get i) ∧
    (s.trk.windows.get k = none → s.loseHead k = s ∧ ∀ sn, State.advanceWindow sn s k = s) ∧
    ∀ w, s.trk.windows.get k = some w →
      (∀ i, i ≠ k → (s.trk.windows.get i).any (fun x => x.target == w.target) = false) →
      (w.travel * 256 < w.span * 1000 * (256 - w.win) →
        s.closeInto w.target = closed.raise ⟨.track, .earlyHead, none, some k⟩ s.time) ∧
      (w.span * 1000 * (256 - w.win) ≤ w.travel * 256 → s.closeInto w.target = closed) ∧
      loses (s.loseHead k) ∧
      ∀ sn, let x := w.travel + (sn.get k).travel
        ((s.stand w.target).bite = .empty → w.span * 1000 * (256 + w.win) < x * 256 → loses (State.advanceWindow sn s k)) ∧
        ((s.stand w.target).bite = .loaded ∨ x * 256 ≤ w.span * 1000 * (256 + w.win) →
          State.advanceWindow sn s k =
            { s with trk := { s.trk with windows := s.trk.windows.set k (some { w with travel := x }) } })

/-- R124 to R128, R129: the sequence checks: an entry head-on arms them while the latch is clear; while they are armed a head-on
of a later stand that no open window expects is LOAD_UNEXPECTED, and an expected one records the LOADED stand before it as
its feed; a tail-off with a feed recorded is UNLOAD_ORDER, and clears the stand's own record and those that name it; a trip
disarms the checks and clears every record. That a head-on is tested against the arm flag as the lower-numbered stands have
left it (R128), so that it changes nothing while that flag is clear also where an entry head-on at a higher-numbered stand
of the same compute start is about to arm the checks (R125 and R127 speak of the flag after any arming at this compute
start), is the model's inference (log entry 27). -/
def Obligations.SequenceChecksFollowTheBites : Prop :=
  ∀ (s : State) (sn : Table 7 StandSnap) (windows : Table 7 (Option Window)) (j : Stand), let p := sn.get j
    let t := State.sequenceCheck sn windows s j
    let only : Prop := t = { s with trp := t.trp, tripNumber := t.tripNumber, cram := t.cram }
    let trips (cause : Cause) : Prop := t.trp.latch = true ∧ t.trp.armed = false ∧ (∀ k, t.trp.feed.get k = none) ∧
      t.trp.firstOut = some ⟨cause, s.time, s.lnk.cycleNumber, s.lnk.runState, some (s.figuresOf j)⟩
    (p.change = .none → t = s) ∧
    (p.change = .headOn → p.entryHeadOn = true →
      (s.trp.latch = true → t = s) ∧ (s.trp.latch = false → only ∧ t.trp = { s.trp with armed := true })) ∧
    (p.change = .headOn → p.entryHeadOn = false →
      (p.sched = none ∨ p.entry = none ∨ s.trp.armed = false → t = s) ∧
      ∀ c e, p.sched = some c → p.entry = some e → s.trp.armed = true → s.trp.latch = false →
        let expected := ∃ k w, windows.get k = some w ∧ w.target = j
        (¬ expected → trips (.loadUnexpected j)) ∧
        (expected →
          (∀ k, c.prevOf j = some k → (s.stand k).bite = .loaded →
            only ∧ t.trp = { s.trp with feed := s.trp.feed.set j (some k) }) ∧
          (∀ k, c.prevOf j = some k → (s.stand k).bite = .empty → t = s))) ∧
    (p.change = .tailOff →
      (s.trp.armed = true → s.trp.latch = false → s.trp.feed.get j ≠ none → trips (.unloadOrder j)) ∧
      (s.trp.armed = false ∨ s.trp.feed.get j = none →
        only ∧ t.trp = { s.trp with feed := t.trp.feed } ∧
        ∀ k, t.trp.feed.get k = if k = j ∨ s.trp.feed.get k = some j then none else s.trp.feed.get k))

/-- R160 to R165: a report goes to the next place of the FILLING page, whose header follows; the 63rd report or the last of its
coil closes the page, and the first FREE page after it becomes FILLING, with none FREE none does; with no page FILLING a
report opens the first FREE page after the current one, the current one last, and then goes there; with none FREE the report
is lost and counted. -/
def Obligations.ReportsFillThePage : Prop :=
  ∀ (s : State) (g : Segment) (a : Assessment) (endOfCoil : Bool) (time : Word),
    let p := s.rpt.current
    let n := (s.word (pageBase p + 0x08)).toNat
    let t := s.report g a endOfCoil time
    (s.pageState p = pageFilling → n < 62 → endOfCoil = false →
      t.rpt = { s.rpt with reported := s.rpt.reported + 1 } ∧ t = { s with cram := t.cram, rpt := t.rpt } ∧
      t.cram.readWords (pageBase p + 0x40 * (n + 1)) 16 = reportWords g a time ∧
      t.word (pageBase p + 0x08) = BitVec.ofNat 32 (n + 1) ∧
      t.word (pageBase p + 0x10) = (if n = 0 then BitVec.ofNat 32 g.id.toNat else s.word (pageBase p + 0x10)) ∧
      ∀ x, (x < pageBase p + 0x08 ∨ pageBase p + 0x0C ≤ x) → (x < pageBase p + 0x10 ∨ pageBase p + 0x14 ≤ x) →
        (x < pageBase p + 0x40 * (n + 1) ∨ pageBase p + 0x40 * (n + 2) ≤ x) → t.cram.read x = s.cram.read x) ∧
    (s.pageState p = pageFilling → (n = 62 ∨ n < 62 ∧ endOfCoil = true) →
      t.pageState p = pageFull ∧ t.news = { s.news with page := true } ∧
      t.cram.readWords (pageBase p + 0x40 * (n + 1)) 16 = reportWords g a time ∧
      t.word (pageBase p + 0x08) = BitVec.ofNat 32 (n + 1) ∧ t.rpt.reported = s.rpt.reported + 1 ∧
      t.rpt.lost = s.rpt.lost ∧
      t = { s with cram := t.cram, rpt := t.rpt, news := t.news, irq := t.irq, irqSignals := t.irqSignals } ∧
      (∀ (d : Nat) (q : Fin 16), 1 ≤ d → d ≤ 15 → q.val = (p.val + d) % 16 → s.pageState q = pageFree →
        (∀ (i : Nat) (x : Fin 16), 1 ≤ i → i < d → x.val = (p.val + i) % 16 → s.pageState x ≠ pageFree) →
        t.rpt = { s.rpt with
          current := q, lastSeq := s.rpt.lastSeq + 1, pendingLost := 0, reported := s.rpt.reported + 1 } ∧
        t.cram.readWords (pageBase q) 5 = [pageFilling, s.rpt.lastSeq + 1, 0, s.rpt.pendingLost, 0xFFFFFFFF] ∧
        ∀ x, (x < pageBase p ∨ pageBase p + 0x1000 ≤ x) → (x < pageBase q ∨ pageBase q + 0x14 ≤ x) →
          t.cram.read x = s.cram.read x) ∧
      ((∀ q, s.pageState q ≠ pageFree) → t.rpt = { s.rpt with reported := s.rpt.reported + 1 } ∧
        ∀ x, (x < pageBase p ∨ pageBase p + 0x1000 ≤ x) → t.cram.read x = s.cram.read x)) ∧
    (∀ (d : Nat) (q : Fin 16), s.pageState p ≠ pageFilling → 1 ≤ d → d ≤ 16 → q.val = (p.val + d) % 16 →
      s.pageState q = pageFree →
      (∀ (i : Nat) (x : Fin 16), 1 ≤ i → i < d → x.val = (p.val + i) % 16 → s.pageState x ≠ pageFree) →
      t = State.report { s with
        cram := s.cram.writeWords (pageBase q) [pageFilling, s.rpt.lastSeq + 1, 0, s.rpt.pendingLost, 0xFFFFFFFF]
        rpt := { s.rpt with current := q, lastSeq := s.rpt.lastSeq + 1, pendingLost := 0 } } g a endOfCoil time ∧
      (endOfCoil = false →
      t = { s with cram := t.cram, rpt := { s.rpt with
        current := q, lastSeq := s.rpt.lastSeq + 1, pendingLost := 0, reported := s.rpt.reported + 1 } } ∧
      t.cram.readWords (pageBase q) 5 =
        [pageFilling, s.rpt.lastSeq + 1, 1, s.rpt.pendingLost, BitVec.ofNat 32 g.id.toNat] ∧
      t.cram.readWords (pageBase q + 0x40) 16 = reportWords g a time ∧
      ∀ x, (x < pageBase q ∨ pageBase q + 0x14 ≤ x) → (x < pageBase q + 0x40 ∨ pageBase q + 0x80 ≤ x) →
        t.cram.read x = s.cram.read x)) ∧
    (s.pageState p ≠ pageFilling → (∀ q, s.pageState q ≠ pageFree) →
      t = { s with rpt := { s.rpt with
        lost := s.rpt.lost + 1
        pendingLost := if s.rpt.pendingLost = 0xFFFFFFFF then 0xFFFFFFFF else s.rpt.pendingLost + 1 } })

/-! ## Invariants -/

/-- R171: every step keeps CRAM in its canonical form. -/
def Obligations.StepsKeepMemoryLaw : Prop :=
  ∀ (s t : State), MemoryLaw s → step s = .next t → MemoryLaw t

/-- R131, R187, R188: every step keeps TRIP_OUT, NEWS.TRIP and the latch together, and the interrupt request with NEWS and
NEWS_EN. -/
def Obligations.StepsKeepLatchAndIrqLaw : Prop :=
  ∀ (s t : State), LatchLaw s → IrqLaw s → step s = .next t → LatchLaw t ∧ IrqLaw t

/-- 2.9, R22, R189, R117 to R121, R136: every step keeps the run state and the latch together, the link and ORD at rest
during a reset, and the level causes with their conditions. -/
def Obligations.StepsKeepRunAndLevelLaw : Prop :=
  ∀ (s t : State), RunLaw s → LevelLaw s → step s = .next t → RunLaw t ∧ LevelLaw t

/-- R70, R83, R76, R77, R130: every step keeps the segment table bounded and in order of id, every segment accounted for, the
table empty in LOST and IDLE, and no flush owed outside a computation. -/
def Obligations.StepsKeepTrackingLaws : Prop :=
  ∀ (s t : State), TableLaw s → ConservationLaw s → TrackingLaw s → FlushLaw s → step s = .next t →
    TableLaw t ∧ ConservationLaw t ∧ TrackingLaw t ∧ FlushLaw t

/-- R111 to R113: every step keeps MI within ±MI_max of the active schedule. -/
def Obligations.StepsKeepMonitorLaw : Prop :=
  ∀ (s t : State), MonitorLaw s → step s = .next t → MonitorLaw t

/-- R46 to R53: every step keeps each node's health, E and clean-cycle count in agreement. -/
def Obligations.StepsKeepNodeLaw : Prop :=
  ∀ (s t : State), NodeLaw s → step s = .next t → NodeLaw t

/-- R177 to R179: every step keeps the posting queue, the TAKEN order and the state words of the slots together. -/
def Obligations.StepsKeepOrderLaw : Prop :=
  ∀ (s t : State), OrderLaw s → step s = .next t → OrderLaw t

/-- R135, R183: every step leaves both stamps of the status area and of the trip record whole, but for a reset in
progress. -/
def Obligations.StepsKeepStampLaw : Prop :=
  ∀ (s t : State), StampLaw s → step s = .next t → StampLaw t

/-- The state after reset meets every law the steps keep. That State.reset is the part right after a power-on reset
completed with TRIP_IN high is the model's choice (log entries 5, 7). -/
def Obligations.ResetSatisfiesTheLaws : Prop :=
  MemoryLaw State.reset ∧ LatchLaw State.reset ∧ IrqLaw State.reset ∧ RunLaw State.reset ∧ LevelLaw State.reset ∧
  TableLaw State.reset ∧ ConservationLaw State.reset ∧ TrackingLaw State.reset ∧ FlushLaw State.reset ∧
  MonitorLaw State.reset ∧ NodeLaw State.reset ∧ OrderLaw State.reset ∧ StampLaw State.reset
end

