-- ==== Sys2Proof/Laws/Memory.lean ====
section
/-! SUPPORT. Laws of CRAM as a list of cells: a read after a write, and the canonical form kept by every operation. -/

namespace Sys2Proof.Machine

/-! ## Reads -/

theorem Memory.read_append_left {m₁ m₂ : Memory} {a : Nat} (h : ∀ c ∈ m₂, c.1 ≠ a) :
    Memory.read (m₁ ++ m₂) a = Memory.read m₁ a := by
  induction m₁ with
  | nil =>
    induction m₂ with
    | nil => rfl
    | cons c m₂ ih =>
      have hc : c.1 ≠ a := h c (by simp)
      have := ih (fun d hd => h d (by simp [hd]))
      simpa [Memory.read, hc] using this
  | cons c m₁ ih => simp only [List.cons_append, Memory.read, ih]

theorem Memory.read_append_right {m₁ m₂ : Memory} {a : Nat} (h : ∀ c ∈ m₁, c.1 ≠ a) :
    Memory.read (m₁ ++ m₂) a = Memory.read m₂ a := by
  induction m₁ with
  | nil => rfl
  | cons c m₁ ih =>
    have hc : c.1 ≠ a := h c (by simp)
    simpa [Memory.read, hc] using ih (fun d hd => h d (by simp [hd]))

theorem Memory.read_filter {m : Memory} {p : Nat → Bool} (a : Nat) :
    Memory.read (m.filter (fun c => p c.1)) a = if p a then Memory.read m a else 0 := by
  induction m with
  | nil => simp [Memory.read]
  | cons c m ih =>
    by_cases hp : p c.1 <;> by_cases hc : c.1 = a <;> simp_all [Memory.read]

theorem Memory.mem_cells {lo : Nat} {bs : List Byte} {c : Host.Cell} (h : c ∈ Memory.cells lo bs) :
    lo ≤ c.1 ∧ c.1 < lo + bs.length ∧ c.2 ≠ 0 := by
  induction bs generalizing lo with
  | nil => simp [Memory.cells] at h
  | cons b bs ih =>
    simp only [Memory.cells] at h
    split at h
    · have := ih h; simp only [List.length_cons]; exact ⟨by omega, by omega, this.2.2⟩
    · rcases List.mem_cons.1 h with rfl | h
      · simp_all
      · have := ih h; simp only [List.length_cons]; exact ⟨by omega, by omega, this.2.2⟩

theorem Memory.read_cells (lo : Nat) (bs : List Byte) (a : Nat) (h : lo ≤ a) :
    Memory.read (Memory.cells lo bs) a = bs.getD (a - lo) 0 := by
  induction bs generalizing lo with
  | nil => simp [Memory.cells, Memory.read]
  | cons b bs ih =>
    rcases Nat.eq_or_lt_of_le h with rfl | hlt
    · simp only [Memory.cells, Nat.sub_self, List.getD_cons_zero]
      split
      · next hb =>
        rw [hb, ← List.append_nil (Memory.cells _ _), Memory.read_append_right]
        · rfl
        · intro c hc; have := Memory.mem_cells hc; omega
      · simp [Memory.read]
    · have hs : a - lo = (a - (lo + 1)) + 1 := by omega
      have hne : lo ≠ a := by omega
      simp only [Memory.cells, hs, List.getD_cons_succ]
      split
      · exact ih (lo + 1) (by omega)
      · simpa [Memory.read, hne] using ih (lo + 1) (by omega)

/-- A read after a write: the written byte inside the range, the byte before outside it. -/
theorem Memory.read_write (m : Memory) (lo : Nat) (bs : List Byte) (a : Nat) :
    (m.write lo bs).read a =
      if lo ≤ a ∧ a < lo + bs.length then bs.getD (a - lo) 0 else m.read a := by
  unfold Memory.write
  by_cases h1 : a < lo
  · rw [Memory.read_append_left, Memory.read_filter (p := fun x => decide (x < lo))]
    · simp [h1, show ¬ lo ≤ a by omega]
    · intro c hc
      rcases List.mem_append.1 hc with hc | hc
      · have := Memory.mem_cells hc; omega
      · have := (List.mem_filter.1 hc).2; simp at this; omega
  · rw [Memory.read_append_right]
    · by_cases h2 : a < lo + bs.length
      · rw [Memory.read_append_left, Memory.read_cells lo bs a (by omega)]
        · simp [h2, show lo ≤ a by omega]
        · intro c hc; have := (List.mem_filter.1 hc).2; simp at this; omega
      · rw [Memory.read_append_right, Memory.read_filter (p := fun x => decide (lo + bs.length ≤ x))]
        · simp [h2, show lo + bs.length ≤ a by omega]
        · intro c hc; have := Memory.mem_cells hc; omega
    · intro c hc; have := (List.mem_filter.1 hc).2; simp at this; omega

theorem Memory.read_write_outside (m : Memory) (lo : Nat) (bs : List Byte) (a : Nat)
    (h : a < lo ∨ lo + bs.length ≤ a) : (m.write lo bs).read a = m.read a := by
  rw [Memory.read_write, if_neg (by omega)]

theorem Memory.read_keep (m : Memory) (p : Nat → Bool) (a : Nat) :
    (m.keep p).read a = if p a then m.read a else 0 := Memory.read_filter a

/-! ## Words -/

@[simp] theorem wordBytes_length (w : Word) : (wordBytes w).length = 4 := rfl

@[simp] theorem words_length (ws : List Word) : (ws.flatMap wordBytes).length = 4 * ws.length := by
  induction ws with
  | nil => rfl
  | cons w ws ih => simp only [List.flatMap_cons, List.length_append, ih, wordBytes_length, List.length_cons]; omega

/-- The bytes of a word, put together again. -/
theorem bytesWord_wordBytes (w : Word) :
    bytesWord (w.extractLsb' 0 8) (w.extractLsb' 8 8) (w.extractLsb' 16 8) (w.extractLsb' 24 8) = w := by
  apply BitVec.eq_of_getLsbD_eq
  intro i hi
  simp only [bytesWord, BitVec.getLsbD_append, BitVec.getLsbD_extractLsb']
  split
  · simp_all
  · split
    · simp_all [show 8 + (i - 8) = i by omega, show i - 8 < 8 by omega]
    · split
      · simp_all [show 16 + (i - 8 - 8) = i by omega]
      · simp_all [show 24 + (i - 8 - 8 - 8) = i by omega, show i - 8 - 8 - 8 < 8 by omega]

/-- A word read back where it was written. -/
theorem Memory.readWord_writeWord (m : Memory) (a : Nat) (w : Word) : (m.writeWord a w).readWord a = w := by
  simp only [Memory.readWord, Memory.writeWord, Memory.read_write, wordBytes_length]
  simp only [show a ≤ a ∧ a < a + 4 from ⟨by omega, by omega⟩,
    show a ≤ a + 1 ∧ a + 1 < a + 4 from ⟨by omega, by omega⟩,
    show a ≤ a + 2 ∧ a + 2 < a + 4 from ⟨by omega, by omega⟩,
    show a ≤ a + 3 ∧ a + 3 < a + 4 from ⟨by omega, by omega⟩, and_self, if_true]
  have e0 : a - a = 0 := by omega
  have e1 : a + 1 - a = 1 := by omega
  have e2 : a + 2 - a = 2 := by omega
  have e3 : a + 3 - a = 3 := by omega
  rw [e0, e1, e2, e3]
  exact bytesWord_wordBytes w

/-- A word apart from the bytes written is unchanged. -/
theorem Memory.readWord_write_outside (m : Memory) (lo : Nat) (bs : List Byte) (a : Nat)
    (h : a + 4 ≤ lo ∨ lo + bs.length ≤ a) : (m.write lo bs).readWord a = m.readWord a := by
  simp only [Memory.readWord]
  rw [Memory.read_write_outside _ _ _ _ (by omega), Memory.read_write_outside _ _ _ _ (by omega),
    Memory.read_write_outside _ _ _ _ (by omega), Memory.read_write_outside _ _ _ _ (by omega)]

/-! ## The canonical form -/

theorem Memory.cells_wf (lo : Nat) (bs : List Byte) : Memory.wf (Memory.cells lo bs) := by
  refine ⟨?_, fun c hc => (Memory.mem_cells hc).2.2⟩
  induction bs generalizing lo with
  | nil => exact List.Pairwise.nil
  | cons b bs ih =>
    simp only [Memory.cells]
    split
    · exact ih (lo + 1)
    · refine List.pairwise_cons.2 ⟨fun c hc => ?_, ih (lo + 1)⟩
      have := Memory.mem_cells hc
      show lo < c.1
      omega

theorem Memory.keep_wf {m : Memory} (p : Nat → Bool) (h : m.wf) : (m.keep p).wf :=
  ⟨h.1.filter _, fun c hc => h.2 c (List.mem_filter.1 hc).1⟩

/-- A write keeps the canonical form. -/
theorem Memory.write_wf {m : Memory} (lo : Nat) (bs : List Byte) (h : m.wf) : (m.write lo bs).wf := by
  have hc := Memory.cells_wf lo bs
  constructor
  · refine List.pairwise_append.2 ⟨h.1.filter _, List.pairwise_append.2 ⟨hc.1, h.1.filter _, ?_⟩, ?_⟩
    · intro c hcc d hd
      have h1 := Memory.mem_cells hcc
      have h2 := (List.mem_filter.1 hd).2
      simp at h2; omega
    · intro c hcc d hd
      have h1 := (List.mem_filter.1 hcc).2
      simp at h1
      rcases List.mem_append.1 hd with hd | hd
      · have h2 := Memory.mem_cells hd; omega
      · have h2 := (List.mem_filter.1 hd).2
        simp at h2; omega
  · intro c hcc
    rcases List.mem_append.1 hcc with hcc | hcc
    · exact h.2 c (List.mem_filter.1 hcc).1
    · rcases List.mem_append.1 hcc with hcc | hcc
      · exact hc.2 c hcc
      · exact h.2 c (List.mem_filter.1 hcc).1

theorem Memory.writeWord_wf {m : Memory} (a : Nat) (w : Word) (h : m.wf) : (m.writeWord a w).wf :=
  Memory.write_wf a _ h

theorem Memory.writeWords_wf {m : Memory} (a : Nat) (ws : List Word) (h : m.wf) : (m.writeWords a ws).wf :=
  Memory.write_wf a _ h

theorem Memory.nil_wf : Memory.wf [] := ⟨List.Pairwise.nil, by simp⟩

/-- The memory of State.reset is in canonical form. -/
theorem State.reset_cram_wf : State.reset.cram.wf := by decide +kernel

end Sys2Proof.Machine
end

