-- ==== Sys2Proof/Laws/State.lean ====
section
/-! SUPPORT. What each plain update of State leaves unchanged, field by field, and what it writes. -/

namespace Sys2Proof.Machine

variable (s : State)

/-! ### putWord -/

@[simp] theorem State.putWord_pending (a : Nat) (w : Word) :
    (s.putWord a w).pending = s.pending := rfl
@[simp] theorem State.putWord_clock (a : Nat) (w : Word) :
    (s.putWord a w).clock = s.clock := rfl
@[simp] theorem State.putWord_freeCount (a : Nat) (w : Word) :
    (s.putWord a w).freeCount = s.freeCount := rfl
@[simp] theorem State.putWord_time (a : Nat) (w : Word) :
    (s.putWord a w).time = s.time := rfl
@[simp] theorem State.putWord_resetting (a : Nat) (w : Word) :
    (s.putWord a w).resetting = s.resetting := rfl
@[simp] theorem State.putWord_tripIn (a : Nat) (w : Word) :
    (s.putWord a w).tripIn = s.tripIn := rfl
@[simp] theorem State.putWord_tripOut (a : Nat) (w : Word) :
    (s.putWord a w).tripOut = s.tripOut := rfl
@[simp] theorem State.putWord_ctrlCommanded (a : Nat) (w : Word) :
    (s.putWord a w).ctrlCommanded = s.ctrlCommanded := rfl
@[simp] theorem State.putWord_news (a : Nat) (w : Word) :
    (s.putWord a w).news = s.news := rfl
@[simp] theorem State.putWord_newsEn (a : Nat) (w : Word) :
    (s.putWord a w).newsEn = s.newsEn := rfl
@[simp] theorem State.putWord_irq (a : Nat) (w : Word) :
    (s.putWord a w).irq = s.irq := rfl
@[simp] theorem State.putWord_irqSignals (a : Nat) (w : Word) :
    (s.putWord a w).irqSignals = s.irqSignals := rfl
@[simp] theorem State.putWord_readData (a : Nat) (w : Word) :
    (s.putWord a w).readData = s.readData := rfl
@[simp] theorem State.putWord_hif (a : Nat) (w : Word) :
    (s.putWord a w).hif = s.hif := rfl
@[simp] theorem State.putWord_ord (a : Nat) (w : Word) :
    (s.putWord a w).ord = s.ord := rfl
@[simp] theorem State.putWord_lnk (a : Nat) (w : Word) :
    (s.putWord a w).lnk = s.lnk := rfl
@[simp] theorem State.putWord_linkOut (a : Nat) (w : Word) :
    (s.putWord a w).linkOut = s.linkOut := rfl
@[simp] theorem State.putWord_stu (a : Nat) (w : Word) :
    (s.putWord a w).stu = s.stu := rfl
@[simp] theorem State.putWord_trk (a : Nat) (w : Word) :
    (s.putWord a w).trk = s.trk := rfl
@[simp] theorem State.putWord_gap (a : Nat) (w : Word) :
    (s.putWord a w).gap = s.gap := rfl
@[simp] theorem State.putWord_trp (a : Nat) (w : Word) :
    (s.putWord a w).trp = s.trp := rfl
@[simp] theorem State.putWord_tripNumber (a : Nat) (w : Word) :
    (s.putWord a w).tripNumber = s.tripNumber := rfl
@[simp] theorem State.putWord_evc (a : Nat) (w : Word) :
    (s.putWord a w).evc = s.evc := rfl
@[simp] theorem State.putWord_rpt (a : Nat) (w : Word) :
    (s.putWord a w).rpt = s.rpt := rfl
@[simp] theorem State.putWord_comp (a : Nat) (w : Word) :
    (s.putWord a w).comp = s.comp := rfl

/-! ### putWords -/

@[simp] theorem State.putWords_pending (a : Nat) (ws : List Word) :
    (s.putWords a ws).pending = s.pending := rfl
@[simp] theorem State.putWords_clock (a : Nat) (ws : List Word) :
    (s.putWords a ws).clock = s.clock := rfl
@[simp] theorem State.putWords_freeCount (a : Nat) (ws : List Word) :
    (s.putWords a ws).freeCount = s.freeCount := rfl
@[simp] theorem State.putWords_time (a : Nat) (ws : List Word) :
    (s.putWords a ws).time = s.time := rfl
@[simp] theorem State.putWords_resetting (a : Nat) (ws : List Word) :
    (s.putWords a ws).resetting = s.resetting := rfl
@[simp] theorem State.putWords_tripIn (a : Nat) (ws : List Word) :
    (s.putWords a ws).tripIn = s.tripIn := rfl
@[simp] theorem State.putWords_tripOut (a : Nat) (ws : List Word) :
    (s.putWords a ws).tripOut = s.tripOut := rfl
@[simp] theorem State.putWords_ctrlCommanded (a : Nat) (ws : List Word) :
    (s.putWords a ws).ctrlCommanded = s.ctrlCommanded := rfl
@[simp] theorem State.putWords_news (a : Nat) (ws : List Word) :
    (s.putWords a ws).news = s.news := rfl
@[simp] theorem State.putWords_newsEn (a : Nat) (ws : List Word) :
    (s.putWords a ws).newsEn = s.newsEn := rfl
@[simp] theorem State.putWords_irq (a : Nat) (ws : List Word) :
    (s.putWords a ws).irq = s.irq := rfl
@[simp] theorem State.putWords_irqSignals (a : Nat) (ws : List Word) :
    (s.putWords a ws).irqSignals = s.irqSignals := rfl
@[simp] theorem State.putWords_readData (a : Nat) (ws : List Word) :
    (s.putWords a ws).readData = s.readData := rfl
@[simp] theorem State.putWords_hif (a : Nat) (ws : List Word) :
    (s.putWords a ws).hif = s.hif := rfl
@[simp] theorem State.putWords_ord (a : Nat) (ws : List Word) :
    (s.putWords a ws).ord = s.ord := rfl
@[simp] theorem State.putWords_lnk (a : Nat) (ws : List Word) :
    (s.putWords a ws).lnk = s.lnk := rfl
@[simp] theorem State.putWords_linkOut (a : Nat) (ws : List Word) :
    (s.putWords a ws).linkOut = s.linkOut := rfl
@[simp] theorem State.putWords_stu (a : Nat) (ws : List Word) :
    (s.putWords a ws).stu = s.stu := rfl
@[simp] theorem State.putWords_trk (a : Nat) (ws : List Word) :
    (s.putWords a ws).trk = s.trk := rfl
@[simp] theorem State.putWords_gap (a : Nat) (ws : List Word) :
    (s.putWords a ws).gap = s.gap := rfl
@[simp] theorem State.putWords_trp (a : Nat) (ws : List Word) :
    (s.putWords a ws).trp = s.trp := rfl
@[simp] theorem State.putWords_tripNumber (a : Nat) (ws : List Word) :
    (s.putWords a ws).tripNumber = s.tripNumber := rfl
@[simp] theorem State.putWords_evc (a : Nat) (ws : List Word) :
    (s.putWords a ws).evc = s.evc := rfl
@[simp] theorem State.putWords_rpt (a : Nat) (ws : List Word) :
    (s.putWords a ws).rpt = s.rpt := rfl
@[simp] theorem State.putWords_comp (a : Nat) (ws : List Word) :
    (s.putWords a ws).comp = s.comp := rfl

/-! ### useFree -/

@[simp] theorem State.useFree_pending : s.useFree.pending = s.pending := rfl
@[simp] theorem State.useFree_clock : s.useFree.clock = s.clock := rfl
@[simp] theorem State.useFree_time : s.useFree.time = s.time := rfl
@[simp] theorem State.useFree_resetting : s.useFree.resetting = s.resetting := rfl
@[simp] theorem State.useFree_tripIn : s.useFree.tripIn = s.tripIn := rfl
@[simp] theorem State.useFree_tripOut : s.useFree.tripOut = s.tripOut := rfl
@[simp] theorem State.useFree_ctrlCommanded : s.useFree.ctrlCommanded = s.ctrlCommanded := rfl
@[simp] theorem State.useFree_news : s.useFree.news = s.news := rfl
@[simp] theorem State.useFree_newsEn : s.useFree.newsEn = s.newsEn := rfl
@[simp] theorem State.useFree_irq : s.useFree.irq = s.irq := rfl
@[simp] theorem State.useFree_irqSignals : s.useFree.irqSignals = s.irqSignals := rfl
@[simp] theorem State.useFree_readData : s.useFree.readData = s.readData := rfl
@[simp] theorem State.useFree_cram : s.useFree.cram = s.cram := rfl
@[simp] theorem State.useFree_hif : s.useFree.hif = s.hif := rfl
@[simp] theorem State.useFree_ord : s.useFree.ord = s.ord := rfl
@[simp] theorem State.useFree_lnk : s.useFree.lnk = s.lnk := rfl
@[simp] theorem State.useFree_linkOut : s.useFree.linkOut = s.linkOut := rfl
@[simp] theorem State.useFree_stu : s.useFree.stu = s.stu := rfl
@[simp] theorem State.useFree_trk : s.useFree.trk = s.trk := rfl
@[simp] theorem State.useFree_gap : s.useFree.gap = s.gap := rfl
@[simp] theorem State.useFree_trp : s.useFree.trp = s.trp := rfl
@[simp] theorem State.useFree_tripNumber : s.useFree.tripNumber = s.tripNumber := rfl
@[simp] theorem State.useFree_evc : s.useFree.evc = s.evc := rfl
@[simp] theorem State.useFree_rpt : s.useFree.rpt = s.rpt := rfl
@[simp] theorem State.useFree_comp : s.useFree.comp = s.comp := rfl

/-! ### followIrq -/

@[simp] theorem State.followIrq_pending : s.followIrq.pending = s.pending := rfl
@[simp] theorem State.followIrq_clock : s.followIrq.clock = s.clock := rfl
@[simp] theorem State.followIrq_freeCount : s.followIrq.freeCount = s.freeCount := rfl
@[simp] theorem State.followIrq_time : s.followIrq.time = s.time := rfl
@[simp] theorem State.followIrq_resetting : s.followIrq.resetting = s.resetting := rfl
@[simp] theorem State.followIrq_tripIn : s.followIrq.tripIn = s.tripIn := rfl
@[simp] theorem State.followIrq_tripOut : s.followIrq.tripOut = s.tripOut := rfl
@[simp] theorem State.followIrq_ctrlCommanded : s.followIrq.ctrlCommanded = s.ctrlCommanded := rfl
@[simp] theorem State.followIrq_news : s.followIrq.news = s.news := rfl
@[simp] theorem State.followIrq_newsEn : s.followIrq.newsEn = s.newsEn := rfl
@[simp] theorem State.followIrq_readData : s.followIrq.readData = s.readData := rfl
@[simp] theorem State.followIrq_cram : s.followIrq.cram = s.cram := rfl
@[simp] theorem State.followIrq_hif : s.followIrq.hif = s.hif := rfl
@[simp] theorem State.followIrq_ord : s.followIrq.ord = s.ord := rfl
@[simp] theorem State.followIrq_lnk : s.followIrq.lnk = s.lnk := rfl
@[simp] theorem State.followIrq_linkOut : s.followIrq.linkOut = s.linkOut := rfl
@[simp] theorem State.followIrq_stu : s.followIrq.stu = s.stu := rfl
@[simp] theorem State.followIrq_trk : s.followIrq.trk = s.trk := rfl
@[simp] theorem State.followIrq_gap : s.followIrq.gap = s.gap := rfl
@[simp] theorem State.followIrq_trp : s.followIrq.trp = s.trp := rfl
@[simp] theorem State.followIrq_tripNumber : s.followIrq.tripNumber = s.tripNumber := rfl
@[simp] theorem State.followIrq_evc : s.followIrq.evc = s.evc := rfl
@[simp] theorem State.followIrq_rpt : s.followIrq.rpt = s.rpt := rfl
@[simp] theorem State.followIrq_comp : s.followIrq.comp = s.comp := rfl

/-! ### withNews -/

@[simp] theorem State.withNews_pending (n : News) :
    (s.withNews n).pending = s.pending := rfl
@[simp] theorem State.withNews_clock (n : News) :
    (s.withNews n).clock = s.clock := rfl
@[simp] theorem State.withNews_freeCount (n : News) :
    (s.withNews n).freeCount = s.freeCount := rfl
@[simp] theorem State.withNews_time (n : News) :
    (s.withNews n).time = s.time := rfl
@[simp] theorem State.withNews_resetting (n : News) :
    (s.withNews n).resetting = s.resetting := rfl
@[simp] theorem State.withNews_tripIn (n : News) :
    (s.withNews n).tripIn = s.tripIn := rfl
@[simp] theorem State.withNews_tripOut (n : News) :
    (s.withNews n).tripOut = s.tripOut := rfl
@[simp] theorem State.withNews_ctrlCommanded (n : News) :
    (s.withNews n).ctrlCommanded = s.ctrlCommanded := rfl
@[simp] theorem State.withNews_newsEn (n : News) :
    (s.withNews n).newsEn = s.newsEn := rfl
@[simp] theorem State.withNews_readData (n : News) :
    (s.withNews n).readData = s.readData := rfl
@[simp] theorem State.withNews_cram (n : News) :
    (s.withNews n).cram = s.cram := rfl
@[simp] theorem State.withNews_hif (n : News) :
    (s.withNews n).hif = s.hif := rfl
@[simp] theorem State.withNews_ord (n : News) :
    (s.withNews n).ord = s.ord := rfl
@[simp] theorem State.withNews_lnk (n : News) :
    (s.withNews n).lnk = s.lnk := rfl
@[simp] theorem State.withNews_linkOut (n : News) :
    (s.withNews n).linkOut = s.linkOut := rfl
@[simp] theorem State.withNews_stu (n : News) :
    (s.withNews n).stu = s.stu := rfl
@[simp] theorem State.withNews_trk (n : News) :
    (s.withNews n).trk = s.trk := rfl
@[simp] theorem State.withNews_gap (n : News) :
    (s.withNews n).gap = s.gap := rfl
@[simp] theorem State.withNews_trp (n : News) :
    (s.withNews n).trp = s.trp := rfl
@[simp] theorem State.withNews_tripNumber (n : News) :
    (s.withNews n).tripNumber = s.tripNumber := rfl
@[simp] theorem State.withNews_evc (n : News) :
    (s.withNews n).evc = s.evc := rfl
@[simp] theorem State.withNews_rpt (n : News) :
    (s.withNews n).rpt = s.rpt := rfl
@[simp] theorem State.withNews_comp (n : News) :
    (s.withNews n).comp = s.comp := rfl

/-! ### mirrorTrip -/

@[simp] theorem State.mirrorTrip_pending (b : Bool) :
    (s.mirrorTrip b).pending = s.pending := rfl
@[simp] theorem State.mirrorTrip_clock (b : Bool) :
    (s.mirrorTrip b).clock = s.clock := rfl
@[simp] theorem State.mirrorTrip_freeCount (b : Bool) :
    (s.mirrorTrip b).freeCount = s.freeCount := rfl
@[simp] theorem State.mirrorTrip_time (b : Bool) :
    (s.mirrorTrip b).time = s.time := rfl
@[simp] theorem State.mirrorTrip_resetting (b : Bool) :
    (s.mirrorTrip b).resetting = s.resetting := rfl
@[simp] theorem State.mirrorTrip_tripIn (b : Bool) :
    (s.mirrorTrip b).tripIn = s.tripIn := rfl
@[simp] theorem State.mirrorTrip_tripOut (b : Bool) :
    (s.mirrorTrip b).tripOut = s.tripOut := rfl
@[simp] theorem State.mirrorTrip_ctrlCommanded (b : Bool) :
    (s.mirrorTrip b).ctrlCommanded = s.ctrlCommanded := rfl
@[simp] theorem State.mirrorTrip_newsEn (b : Bool) :
    (s.mirrorTrip b).newsEn = s.newsEn := rfl
@[simp] theorem State.mirrorTrip_readData (b : Bool) :
    (s.mirrorTrip b).readData = s.readData := rfl
@[simp] theorem State.mirrorTrip_cram (b : Bool) :
    (s.mirrorTrip b).cram = s.cram := rfl
@[simp] theorem State.mirrorTrip_hif (b : Bool) :
    (s.mirrorTrip b).hif = s.hif := rfl
@[simp] theorem State.mirrorTrip_ord (b : Bool) :
    (s.mirrorTrip b).ord = s.ord := rfl
@[simp] theorem State.mirrorTrip_lnk (b : Bool) :
    (s.mirrorTrip b).lnk = s.lnk := rfl
@[simp] theorem State.mirrorTrip_linkOut (b : Bool) :
    (s.mirrorTrip b).linkOut = s.linkOut := rfl
@[simp] theorem State.mirrorTrip_stu (b : Bool) :
    (s.mirrorTrip b).stu = s.stu := rfl
@[simp] theorem State.mirrorTrip_trk (b : Bool) :
    (s.mirrorTrip b).trk = s.trk := rfl
@[simp] theorem State.mirrorTrip_gap (b : Bool) :
    (s.mirrorTrip b).gap = s.gap := rfl
@[simp] theorem State.mirrorTrip_trp (b : Bool) :
    (s.mirrorTrip b).trp = s.trp := rfl
@[simp] theorem State.mirrorTrip_tripNumber (b : Bool) :
    (s.mirrorTrip b).tripNumber = s.tripNumber := rfl
@[simp] theorem State.mirrorTrip_evc (b : Bool) :
    (s.mirrorTrip b).evc = s.evc := rfl
@[simp] theorem State.mirrorTrip_rpt (b : Bool) :
    (s.mirrorTrip b).rpt = s.rpt := rfl
@[simp] theorem State.mirrorTrip_comp (b : Bool) :
    (s.mirrorTrip b).comp = s.comp := rfl

/-! ### send -/

@[simp] theorem State.send_pending (f : List Byte) :
    (s.send f).pending = s.pending := rfl
@[simp] theorem State.send_clock (f : List Byte) :
    (s.send f).clock = s.clock := rfl
@[simp] theorem State.send_freeCount (f : List Byte) :
    (s.send f).freeCount = s.freeCount := rfl
@[simp] theorem State.send_time (f : List Byte) :
    (s.send f).time = s.time := rfl
@[simp] theorem State.send_resetting (f : List Byte) :
    (s.send f).resetting = s.resetting := rfl
@[simp] theorem State.send_tripIn (f : List Byte) :
    (s.send f).tripIn = s.tripIn := rfl
@[simp] theorem State.send_tripOut (f : List Byte) :
    (s.send f).tripOut = s.tripOut := rfl
@[simp] theorem State.send_ctrlCommanded (f : List Byte) :
    (s.send f).ctrlCommanded = s.ctrlCommanded := rfl
@[simp] theorem State.send_news (f : List Byte) :
    (s.send f).news = s.news := rfl
@[simp] theorem State.send_newsEn (f : List Byte) :
    (s.send f).newsEn = s.newsEn := rfl
@[simp] theorem State.send_irq (f : List Byte) :
    (s.send f).irq = s.irq := rfl
@[simp] theorem State.send_irqSignals (f : List Byte) :
    (s.send f).irqSignals = s.irqSignals := rfl
@[simp] theorem State.send_readData (f : List Byte) :
    (s.send f).readData = s.readData := rfl
@[simp] theorem State.send_cram (f : List Byte) :
    (s.send f).cram = s.cram := rfl
@[simp] theorem State.send_hif (f : List Byte) :
    (s.send f).hif = s.hif := rfl
@[simp] theorem State.send_ord (f : List Byte) :
    (s.send f).ord = s.ord := rfl
@[simp] theorem State.send_lnk (f : List Byte) :
    (s.send f).lnk = s.lnk := rfl
@[simp] theorem State.send_stu (f : List Byte) :
    (s.send f).stu = s.stu := rfl
@[simp] theorem State.send_trk (f : List Byte) :
    (s.send f).trk = s.trk := rfl
@[simp] theorem State.send_gap (f : List Byte) :
    (s.send f).gap = s.gap := rfl
@[simp] theorem State.send_trp (f : List Byte) :
    (s.send f).trp = s.trp := rfl
@[simp] theorem State.send_tripNumber (f : List Byte) :
    (s.send f).tripNumber = s.tripNumber := rfl
@[simp] theorem State.send_evc (f : List Byte) :
    (s.send f).evc = s.evc := rfl
@[simp] theorem State.send_rpt (f : List Byte) :
    (s.send f).rpt = s.rpt := rfl
@[simp] theorem State.send_comp (f : List Byte) :
    (s.send f).comp = s.comp := rfl

/-! ### dropWord -/

@[simp] theorem State.dropWord_pending (a : Nat) (r : Violation) :
    (s.dropWord a r).pending = s.pending := rfl
@[simp] theorem State.dropWord_clock (a : Nat) (r : Violation) :
    (s.dropWord a r).clock = s.clock := rfl
@[simp] theorem State.dropWord_freeCount (a : Nat) (r : Violation) :
    (s.dropWord a r).freeCount = s.freeCount := rfl
@[simp] theorem State.dropWord_time (a : Nat) (r : Violation) :
    (s.dropWord a r).time = s.time := rfl
@[simp] theorem State.dropWord_resetting (a : Nat) (r : Violation) :
    (s.dropWord a r).resetting = s.resetting := rfl
@[simp] theorem State.dropWord_tripIn (a : Nat) (r : Violation) :
    (s.dropWord a r).tripIn = s.tripIn := rfl
@[simp] theorem State.dropWord_tripOut (a : Nat) (r : Violation) :
    (s.dropWord a r).tripOut = s.tripOut := rfl
@[simp] theorem State.dropWord_ctrlCommanded (a : Nat) (r : Violation) :
    (s.dropWord a r).ctrlCommanded = s.ctrlCommanded := rfl
@[simp] theorem State.dropWord_news (a : Nat) (r : Violation) :
    (s.dropWord a r).news = s.news := rfl
@[simp] theorem State.dropWord_newsEn (a : Nat) (r : Violation) :
    (s.dropWord a r).newsEn = s.newsEn := rfl
@[simp] theorem State.dropWord_irq (a : Nat) (r : Violation) :
    (s.dropWord a r).irq = s.irq := rfl
@[simp] theorem State.dropWord_irqSignals (a : Nat) (r : Violation) :
    (s.dropWord a r).irqSignals = s.irqSignals := rfl
@[simp] theorem State.dropWord_readData (a : Nat) (r : Violation) :
    (s.dropWord a r).readData = s.readData := rfl
@[simp] theorem State.dropWord_cram (a : Nat) (r : Violation) :
    (s.dropWord a r).cram = s.cram := rfl
@[simp] theorem State.dropWord_ord (a : Nat) (r : Violation) :
    (s.dropWord a r).ord = s.ord := rfl
@[simp] theorem State.dropWord_lnk (a : Nat) (r : Violation) :
    (s.dropWord a r).lnk = s.lnk := rfl
@[simp] theorem State.dropWord_linkOut (a : Nat) (r : Violation) :
    (s.dropWord a r).linkOut = s.linkOut := rfl
@[simp] theorem State.dropWord_stu (a : Nat) (r : Violation) :
    (s.dropWord a r).stu = s.stu := rfl
@[simp] theorem State.dropWord_trk (a : Nat) (r : Violation) :
    (s.dropWord a r).trk = s.trk := rfl
@[simp] theorem State.dropWord_gap (a : Nat) (r : Violation) :
    (s.dropWord a r).gap = s.gap := rfl
@[simp] theorem State.dropWord_trp (a : Nat) (r : Violation) :
    (s.dropWord a r).trp = s.trp := rfl
@[simp] theorem State.dropWord_tripNumber (a : Nat) (r : Violation) :
    (s.dropWord a r).tripNumber = s.tripNumber := rfl
@[simp] theorem State.dropWord_evc (a : Nat) (r : Violation) :
    (s.dropWord a r).evc = s.evc := rfl
@[simp] theorem State.dropWord_rpt (a : Nat) (r : Violation) :
    (s.dropWord a r).rpt = s.rpt := rfl
@[simp] theorem State.dropWord_comp (a : Nat) (r : Violation) :
    (s.dropWord a r).comp = s.comp := rfl

/-! ### modifyStand -/

@[simp] theorem State.modifyStand_pending (k : Stand) (f : StandRec → StandRec) :
    (s.modifyStand k f).pending = s.pending := rfl
@[simp] theorem State.modifyStand_clock (k : Stand) (f : StandRec → StandRec) :
    (s.modifyStand k f).clock = s.clock := rfl
@[simp] theorem State.modifyStand_freeCount (k : Stand) (f : StandRec → StandRec) :
    (s.modifyStand k f).freeCount = s.freeCount := rfl
@[simp] theorem State.modifyStand_time (k : Stand) (f : StandRec → StandRec) :
    (s.modifyStand k f).time = s.time := rfl
@[simp] theorem State.modifyStand_resetting (k : Stand) (f : StandRec → StandRec) :
    (s.modifyStand k f).resetting = s.resetting := rfl
@[simp] theorem State.modifyStand_tripIn (k : Stand) (f : StandRec → StandRec) :
    (s.modifyStand k f).tripIn = s.tripIn := rfl
@[simp] theorem State.modifyStand_tripOut (k : Stand) (f : StandRec → StandRec) :
    (s.modifyStand k f).tripOut = s.tripOut := rfl
@[simp] theorem State.modifyStand_ctrlCommanded (k : Stand) (f : StandRec → StandRec) :
    (s.modifyStand k f).ctrlCommanded = s.ctrlCommanded := rfl
@[simp] theorem State.modifyStand_news (k : Stand) (f : StandRec → StandRec) :
    (s.modifyStand k f).news = s.news := rfl
@[simp] theorem State.modifyStand_newsEn (k : Stand) (f : StandRec → StandRec) :
    (s.modifyStand k f).newsEn = s.newsEn := rfl
@[simp] theorem State.modifyStand_irq (k : Stand) (f : StandRec → StandRec) :
    (s.modifyStand k f).irq = s.irq := rfl
@[simp] theorem State.modifyStand_irqSignals (k : Stand) (f : StandRec → StandRec) :
    (s.modifyStand k f).irqSignals = s.irqSignals := rfl
@[simp] theorem State.modifyStand_readData (k : Stand) (f : StandRec → StandRec) :
    (s.modifyStand k f).readData = s.readData := rfl
@[simp] theorem State.modifyStand_cram (k : Stand) (f : StandRec → StandRec) :
    (s.modifyStand k f).cram = s.cram := rfl
@[simp] theorem State.modifyStand_hif (k : Stand) (f : StandRec → StandRec) :
    (s.modifyStand k f).hif = s.hif := rfl
@[simp] theorem State.modifyStand_ord (k : Stand) (f : StandRec → StandRec) :
    (s.modifyStand k f).ord = s.ord := rfl
@[simp] theorem State.modifyStand_lnk (k : Stand) (f : StandRec → StandRec) :
    (s.modifyStand k f).lnk = s.lnk := rfl
@[simp] theorem State.modifyStand_linkOut (k : Stand) (f : StandRec → StandRec) :
    (s.modifyStand k f).linkOut = s.linkOut := rfl
@[simp] theorem State.modifyStand_trk (k : Stand) (f : StandRec → StandRec) :
    (s.modifyStand k f).trk = s.trk := rfl
@[simp] theorem State.modifyStand_gap (k : Stand) (f : StandRec → StandRec) :
    (s.modifyStand k f).gap = s.gap := rfl
@[simp] theorem State.modifyStand_trp (k : Stand) (f : StandRec → StandRec) :
    (s.modifyStand k f).trp = s.trp := rfl
@[simp] theorem State.modifyStand_tripNumber (k : Stand) (f : StandRec → StandRec) :
    (s.modifyStand k f).tripNumber = s.tripNumber := rfl
@[simp] theorem State.modifyStand_evc (k : Stand) (f : StandRec → StandRec) :
    (s.modifyStand k f).evc = s.evc := rfl
@[simp] theorem State.modifyStand_rpt (k : Stand) (f : StandRec → StandRec) :
    (s.modifyStand k f).rpt = s.rpt := rfl
@[simp] theorem State.modifyStand_comp (k : Stand) (f : StandRec → StandRec) :
    (s.modifyStand k f).comp = s.comp := rfl

/-! ### modifyGap -/

@[simp] theorem State.modifyGap_pending (k : Stand) (f : GapRec → GapRec) :
    (s.modifyGap k f).pending = s.pending := rfl
@[simp] theorem State.modifyGap_clock (k : Stand) (f : GapRec → GapRec) :
    (s.modifyGap k f).clock = s.clock := rfl
@[simp] theorem State.modifyGap_freeCount (k : Stand) (f : GapRec → GapRec) :
    (s.modifyGap k f).freeCount = s.freeCount := rfl
@[simp] theorem State.modifyGap_time (k : Stand) (f : GapRec → GapRec) :
    (s.modifyGap k f).time = s.time := rfl
@[simp] theorem State.modifyGap_resetting (k : Stand) (f : GapRec → GapRec) :
    (s.modifyGap k f).resetting = s.resetting := rfl
@[simp] theorem State.modifyGap_tripIn (k : Stand) (f : GapRec → GapRec) :
    (s.modifyGap k f).tripIn = s.tripIn := rfl
@[simp] theorem State.modifyGap_tripOut (k : Stand) (f : GapRec → GapRec) :
    (s.modifyGap k f).tripOut = s.tripOut := rfl
@[simp] theorem State.modifyGap_ctrlCommanded (k : Stand) (f : GapRec → GapRec) :
    (s.modifyGap k f).ctrlCommanded = s.ctrlCommanded := rfl
@[simp] theorem State.modifyGap_news (k : Stand) (f : GapRec → GapRec) :
    (s.modifyGap k f).news = s.news := rfl
@[simp] theorem State.modifyGap_newsEn (k : Stand) (f : GapRec → GapRec) :
    (s.modifyGap k f).newsEn = s.newsEn := rfl
@[simp] theorem State.modifyGap_irq (k : Stand) (f : GapRec → GapRec) :
    (s.modifyGap k f).irq = s.irq := rfl
@[simp] theorem State.modifyGap_irqSignals (k : Stand) (f : GapRec → GapRec) :
    (s.modifyGap k f).irqSignals = s.irqSignals := rfl
@[simp] theorem State.modifyGap_readData (k : Stand) (f : GapRec → GapRec) :
    (s.modifyGap k f).readData = s.readData := rfl
@[simp] theorem State.modifyGap_cram (k : Stand) (f : GapRec → GapRec) :
    (s.modifyGap k f).cram = s.cram := rfl
@[simp] theorem State.modifyGap_hif (k : Stand) (f : GapRec → GapRec) :
    (s.modifyGap k f).hif = s.hif := rfl
@[simp] theorem State.modifyGap_ord (k : Stand) (f : GapRec → GapRec) :
    (s.modifyGap k f).ord = s.ord := rfl
@[simp] theorem State.modifyGap_lnk (k : Stand) (f : GapRec → GapRec) :
    (s.modifyGap k f).lnk = s.lnk := rfl
@[simp] theorem State.modifyGap_linkOut (k : Stand) (f : GapRec → GapRec) :
    (s.modifyGap k f).linkOut = s.linkOut := rfl
@[simp] theorem State.modifyGap_stu (k : Stand) (f : GapRec → GapRec) :
    (s.modifyGap k f).stu = s.stu := rfl
@[simp] theorem State.modifyGap_trk (k : Stand) (f : GapRec → GapRec) :
    (s.modifyGap k f).trk = s.trk := rfl
@[simp] theorem State.modifyGap_trp (k : Stand) (f : GapRec → GapRec) :
    (s.modifyGap k f).trp = s.trp := rfl
@[simp] theorem State.modifyGap_tripNumber (k : Stand) (f : GapRec → GapRec) :
    (s.modifyGap k f).tripNumber = s.tripNumber := rfl
@[simp] theorem State.modifyGap_evc (k : Stand) (f : GapRec → GapRec) :
    (s.modifyGap k f).evc = s.evc := rfl
@[simp] theorem State.modifyGap_rpt (k : Stand) (f : GapRec → GapRec) :
    (s.modifyGap k f).rpt = s.rpt := rfl
@[simp] theorem State.modifyGap_comp (k : Stand) (f : GapRec → GapRec) :
    (s.modifyGap k f).comp = s.comp := rfl

/-! ### setPhase -/

@[simp] theorem State.setPhase_pending (p : Phase) :
    (s.setPhase p).pending = s.pending := rfl
@[simp] theorem State.setPhase_clock (p : Phase) :
    (s.setPhase p).clock = s.clock := rfl
@[simp] theorem State.setPhase_freeCount (p : Phase) :
    (s.setPhase p).freeCount = s.freeCount := rfl
@[simp] theorem State.setPhase_time (p : Phase) :
    (s.setPhase p).time = s.time := rfl
@[simp] theorem State.setPhase_resetting (p : Phase) :
    (s.setPhase p).resetting = s.resetting := rfl
@[simp] theorem State.setPhase_tripIn (p : Phase) :
    (s.setPhase p).tripIn = s.tripIn := rfl
@[simp] theorem State.setPhase_tripOut (p : Phase) :
    (s.setPhase p).tripOut = s.tripOut := rfl
@[simp] theorem State.setPhase_ctrlCommanded (p : Phase) :
    (s.setPhase p).ctrlCommanded = s.ctrlCommanded := rfl
@[simp] theorem State.setPhase_news (p : Phase) :
    (s.setPhase p).news = s.news := rfl
@[simp] theorem State.setPhase_newsEn (p : Phase) :
    (s.setPhase p).newsEn = s.newsEn := rfl
@[simp] theorem State.setPhase_irq (p : Phase) :
    (s.setPhase p).irq = s.irq := rfl
@[simp] theorem State.setPhase_irqSignals (p : Phase) :
    (s.setPhase p).irqSignals = s.irqSignals := rfl
@[simp] theorem State.setPhase_readData (p : Phase) :
    (s.setPhase p).readData = s.readData := rfl
@[simp] theorem State.setPhase_cram (p : Phase) :
    (s.setPhase p).cram = s.cram := rfl
@[simp] theorem State.setPhase_hif (p : Phase) :
    (s.setPhase p).hif = s.hif := rfl
@[simp] theorem State.setPhase_lnk (p : Phase) :
    (s.setPhase p).lnk = s.lnk := rfl
@[simp] theorem State.setPhase_linkOut (p : Phase) :
    (s.setPhase p).linkOut = s.linkOut := rfl
@[simp] theorem State.setPhase_stu (p : Phase) :
    (s.setPhase p).stu = s.stu := rfl
@[simp] theorem State.setPhase_trk (p : Phase) :
    (s.setPhase p).trk = s.trk := rfl
@[simp] theorem State.setPhase_gap (p : Phase) :
    (s.setPhase p).gap = s.gap := rfl
@[simp] theorem State.setPhase_trp (p : Phase) :
    (s.setPhase p).trp = s.trp := rfl
@[simp] theorem State.setPhase_tripNumber (p : Phase) :
    (s.setPhase p).tripNumber = s.tripNumber := rfl
@[simp] theorem State.setPhase_evc (p : Phase) :
    (s.setPhase p).evc = s.evc := rfl
@[simp] theorem State.setPhase_rpt (p : Phase) :
    (s.setPhase p).rpt = s.rpt := rfl
@[simp] theorem State.setPhase_comp (p : Phase) :
    (s.setPhase p).comp = s.comp := rfl

/-! ### withTrk -/

@[simp] theorem State.withTrk_pending (f : Trk → Trk) :
    (s.withTrk f).pending = s.pending := rfl
@[simp] theorem State.withTrk_clock (f : Trk → Trk) :
    (s.withTrk f).clock = s.clock := rfl
@[simp] theorem State.withTrk_freeCount (f : Trk → Trk) :
    (s.withTrk f).freeCount = s.freeCount := rfl
@[simp] theorem State.withTrk_time (f : Trk → Trk) :
    (s.withTrk f).time = s.time := rfl
@[simp] theorem State.withTrk_resetting (f : Trk → Trk) :
    (s.withTrk f).resetting = s.resetting := rfl
@[simp] theorem State.withTrk_tripIn (f : Trk → Trk) :
    (s.withTrk f).tripIn = s.tripIn := rfl
@[simp] theorem State.withTrk_tripOut (f : Trk → Trk) :
    (s.withTrk f).tripOut = s.tripOut := rfl
@[simp] theorem State.withTrk_ctrlCommanded (f : Trk → Trk) :
    (s.withTrk f).ctrlCommanded = s.ctrlCommanded := rfl
@[simp] theorem State.withTrk_news (f : Trk → Trk) :
    (s.withTrk f).news = s.news := rfl
@[simp] theorem State.withTrk_newsEn (f : Trk → Trk) :
    (s.withTrk f).newsEn = s.newsEn := rfl
@[simp] theorem State.withTrk_irq (f : Trk → Trk) :
    (s.withTrk f).irq = s.irq := rfl
@[simp] theorem State.withTrk_irqSignals (f : Trk → Trk) :
    (s.withTrk f).irqSignals = s.irqSignals := rfl
@[simp] theorem State.withTrk_readData (f : Trk → Trk) :
    (s.withTrk f).readData = s.readData := rfl
@[simp] theorem State.withTrk_cram (f : Trk → Trk) :
    (s.withTrk f).cram = s.cram := rfl
@[simp] theorem State.withTrk_hif (f : Trk → Trk) :
    (s.withTrk f).hif = s.hif := rfl
@[simp] theorem State.withTrk_ord (f : Trk → Trk) :
    (s.withTrk f).ord = s.ord := rfl
@[simp] theorem State.withTrk_lnk (f : Trk → Trk) :
    (s.withTrk f).lnk = s.lnk := rfl
@[simp] theorem State.withTrk_linkOut (f : Trk → Trk) :
    (s.withTrk f).linkOut = s.linkOut := rfl
@[simp] theorem State.withTrk_stu (f : Trk → Trk) :
    (s.withTrk f).stu = s.stu := rfl
@[simp] theorem State.withTrk_gap (f : Trk → Trk) :
    (s.withTrk f).gap = s.gap := rfl
@[simp] theorem State.withTrk_trp (f : Trk → Trk) :
    (s.withTrk f).trp = s.trp := rfl
@[simp] theorem State.withTrk_tripNumber (f : Trk → Trk) :
    (s.withTrk f).tripNumber = s.tripNumber := rfl
@[simp] theorem State.withTrk_evc (f : Trk → Trk) :
    (s.withTrk f).evc = s.evc := rfl
@[simp] theorem State.withTrk_rpt (f : Trk → Trk) :
    (s.withTrk f).rpt = s.rpt := rfl
@[simp] theorem State.withTrk_comp (f : Trk → Trk) :
    (s.withTrk f).comp = s.comp := rfl

/-! ### statusWrite -/

@[simp] theorem State.statusWrite_pending : s.statusWrite.pending = s.pending := rfl
@[simp] theorem State.statusWrite_clock : s.statusWrite.clock = s.clock := rfl
@[simp] theorem State.statusWrite_freeCount : s.statusWrite.freeCount = s.freeCount := rfl
@[simp] theorem State.statusWrite_time : s.statusWrite.time = s.time := rfl
@[simp] theorem State.statusWrite_resetting : s.statusWrite.resetting = s.resetting := rfl
@[simp] theorem State.statusWrite_tripIn : s.statusWrite.tripIn = s.tripIn := rfl
@[simp] theorem State.statusWrite_tripOut : s.statusWrite.tripOut = s.tripOut := rfl
@[simp] theorem State.statusWrite_ctrlCommanded : s.statusWrite.ctrlCommanded = s.ctrlCommanded := rfl
@[simp] theorem State.statusWrite_news : s.statusWrite.news = s.news := rfl
@[simp] theorem State.statusWrite_newsEn : s.statusWrite.newsEn = s.newsEn := rfl
@[simp] theorem State.statusWrite_irq : s.statusWrite.irq = s.irq := rfl
@[simp] theorem State.statusWrite_irqSignals : s.statusWrite.irqSignals = s.irqSignals := rfl
@[simp] theorem State.statusWrite_readData : s.statusWrite.readData = s.readData := rfl
@[simp] theorem State.statusWrite_ord : s.statusWrite.ord = s.ord := rfl
@[simp] theorem State.statusWrite_lnk : s.statusWrite.lnk = s.lnk := rfl
@[simp] theorem State.statusWrite_linkOut : s.statusWrite.linkOut = s.linkOut := rfl
@[simp] theorem State.statusWrite_stu : s.statusWrite.stu = s.stu := rfl
@[simp] theorem State.statusWrite_trk : s.statusWrite.trk = s.trk := rfl
@[simp] theorem State.statusWrite_gap : s.statusWrite.gap = s.gap := rfl
@[simp] theorem State.statusWrite_trp : s.statusWrite.trp = s.trp := rfl
@[simp] theorem State.statusWrite_tripNumber : s.statusWrite.tripNumber = s.tripNumber := rfl
@[simp] theorem State.statusWrite_evc : s.statusWrite.evc = s.evc := rfl
@[simp] theorem State.statusWrite_rpt : s.statusWrite.rpt = s.rpt := rfl
@[simp] theorem State.statusWrite_comp : s.statusWrite.comp = s.comp := rfl

/-! ### What the updates write -/

@[simp] theorem State.putWord_cram (a : Nat) (w : Word) : (s.putWord a w).cram = s.cram.writeWord a w := rfl
@[simp] theorem State.putWords_cram (a : Nat) (ws : List Word) :
    (s.putWords a ws).cram = s.cram.writeWords a ws := rfl
@[simp] theorem State.useFree_freeCount : s.useFree.freeCount = s.freeCount + 1 := rfl
@[simp] theorem State.withNews_news (n : News) : (s.withNews n).news = n := rfl
@[simp] theorem State.withNews_irq (n : News) : (s.withNews n).irq = n.meets s.newsEn := rfl
@[simp] theorem State.followIrq_irq : s.followIrq.irq = s.news.meets s.newsEn := rfl
@[simp] theorem State.send_linkOut (f : List Byte) : (s.send f).linkOut = s.linkOut ++ [f] := rfl
@[simp] theorem State.dropWord_hif (a : Nat) (r : Violation) :
    (s.dropWord a r).hif = ⟨satSucc s.hif.violations, ⟨natWord a, r, s.time⟩, s.hif.statusNumber⟩ := rfl
@[simp] theorem State.withTrk_trk (f : Trk → Trk) : (s.withTrk f).trk = f s.trk := rfl
@[simp] theorem State.statusWrite_hif :
    s.statusWrite.hif = { s.hif with statusNumber := s.hif.statusNumber + 1 } := rfl

/-! ### Tables -/

@[simp] theorem Table.get_set_same {n : Nat} {α : Type} (t : Table n α) (i : Fin n) (v : α) :
    (t.set i v).get i = v := by simp [Table.get, Table.set]

theorem Table.get_set_other {n : Nat} {α : Type} (t : Table n α) (i j : Fin n) (v : α) (h : i ≠ j) :
    (t.set i v).get j = t.get j := by
  have : i.val ≠ j.val := fun e => h (Fin.ext e)
  simp [Table.get, Table.set, List.getElem_set, this]

@[simp] theorem Table.get_map {n : Nat} {α β : Type} (t : Table n α) (f : α → β) (i : Fin n) :
    (t.map f).get i = f (t.get i) := by simp [Table.get, Table.map]

@[simp] theorem Table.get_fill {n : Nat} {α : Type} (v : α) (i : Fin n) : (Table.fill n v).get i = v := by
  simp [Table.get, Table.fill]

@[simp] theorem Table.get_build {n : Nat} {α : Type} (f : Fin n → α) (i : Fin n) :
    (Table.build f).get i = f i := by simp [Table.get, Table.build]

@[simp] theorem State.modifyStand_same (k : Stand) (f : StandRec → StandRec) :
    (s.modifyStand k f).stand k = f (s.stand k) := by simp [State.modifyStand, State.stand, Table.modify]

theorem State.modifyStand_other (k j : Stand) (f : StandRec → StandRec) (h : k ≠ j) :
    (s.modifyStand k f).stand j = s.stand j := by
  simp [State.modifyStand, State.stand, Table.modify, Table.get_set_other _ _ _ _ h]

@[simp] theorem State.modifyGap_same (k : Stand) (f : GapRec → GapRec) :
    (s.modifyGap k f).gapStand k = f (s.gapStand k) := by simp [State.modifyGap, State.gapStand, Table.modify]

theorem State.modifyGap_other (k j : Stand) (f : GapRec → GapRec) (h : k ≠ j) :
    (s.modifyGap k f).gapStand j = s.gapStand j := by
  simp [State.modifyGap, State.gapStand, Table.modify, Table.get_set_other _ _ _ _ h]

end Sys2Proof.Machine
end

