-- ==== Sys2Proof/Laws/Ops.lean ====
section
/-! SUPPORT. For the shared operations: what each can do, said once. -/

namespace Sys2Proof.Machine

/-! ## Numbers -/

theorem roundDiv_neg (n : Int) (d : Nat) : roundDiv (-n) d = -roundDiv n d := by
  unfold roundDiv
  rcases Int.lt_trichotomy n 0 with h | rfl | h
  · rw [if_pos (by omega), if_neg (by omega), Int.neg_neg]
  · have : (2 * (0 : Int).toNat + d) / (2 * d) = 0 := by
      rcases Nat.eq_zero_or_pos d with rfl | h
      · rfl
      · exact Nat.div_eq_of_lt (by simp; omega)
    simp only [Int.neg_zero, Int.le_refl, if_true, this]; rfl
  · rw [if_neg (by omega), if_pos (by omega), Int.neg_neg]

theorem clampInt_bounds {lo hi : Int} (v : Int) (h : lo ≤ hi) : lo ≤ clampInt lo hi v ∧ clampInt lo hi v ≤ hi := by
  unfold clampInt; split
  · omega
  · split <;> omega

theorem clampInt_inside {lo hi v : Int} (h : lo ≤ v ∧ v ≤ hi) : clampInt lo hi v = v := by
  unfold clampInt; rw [if_neg (by omega), if_neg (by omega)]

theorem clampAbs_le (x : Nat) (v : Int) : (clampAbs x v).natAbs ≤ x := by
  have := clampInt_bounds (lo := -(x : Int)) (hi := x) v (by omega)
  unfold clampAbs; omega

theorem clampAbs_inside {x : Nat} {v : Int} (h : v.natAbs ≤ x) : clampAbs x v = v :=
  clampInt_inside (by omega)

/-! ## Time -/

theorem State.passTo_self (s : State) : s.passTo s.clock = s := by simp [State.passTo]

theorem State.passTo_clock (s : State) (t : Nat) : (s.passTo t).clock = max s.clock t := by
  unfold State.passTo; split <;> simp <;> omega

theorem earlier_cases (a b : Option (Due × Nat)) : earlier a b = a ∨ earlier a b = b := by
  cases a <;> cases b
  · exact .inl rfl
  · exact .inr rfl
  · exact .inl rfl
  · simp only [earlier]; split
    · exact .inr rfl
    · exact .inl rfl

theorem earlier_some {s : State} {ds : List Due} {best : Option (Due × Nat)} {x : Due × Nat}
    (hb : ∀ y, best = some y → s.dueAt y.1 = some y.2)
    (h : ds.foldl (fun best d => earlier best ((s.dueAt d).map (fun t => (d, t)))) best = some x) :
    s.dueAt x.1 = some x.2 := by
  induction ds generalizing best with
  | nil => exact hb x h
  | cons d ds ih =>
    refine ih (fun y hy => ?_) h
    rcases earlier_cases best ((s.dueAt d).map (fun t => (d, t))) with he | he
    · exact hb y (he ▸ hy)
    · have hy := he.symm.trans hy
      obtain ⟨t, ht, rfl⟩ := Option.map_eq_some_iff.1 hy
      exact ht

/-- The step that `nextDue` names is due at the moment it names. -/
theorem State.nextDue_dueAt {s : State} {x : Due × Nat} (h : s.nextDue = some x) : s.dueAt x.1 = some x.2 :=
  earlier_some (by simp) h

/-- With nothing overdue and no order to act on, no time passing changes nothing. -/
theorem State.elapse_zero {s : State} (h : Safety.Settled s) : s.elapse 0 = s := by
  unfold State.elapse
  show runTo 64 s.clock s = s
  rw [runTo]
  split
  · exact s.passTo_self
  · next d hd =>
    have hdue := s.nextDue_dueAt hd
    have := h.1 d.1 d.2 hdue
    have ho : d.1 ≠ .order := by rintro he; rw [he, h.2] at hdue; cases hdue
    rw [if_neg (by simp [takenBefore, ho]; omega)]
    exact s.passTo_self

/-- A step due now is taken now. -/
theorem State.takeDue_now {s : State} {d : Due} (h : Safety.Settled s) (hd : s.dueAt d = some s.clock) :
    s.takeDue d = s.fire d := by
  simp [State.takeDue, hd, State.elapse_zero h, State.isDue]

/-- With no such step ahead, nothing happens. -/
theorem State.takeDue_none {s : State} {d : Due} (hd : s.dueAt d = none) : s.takeDue d = s := by
  simp [State.takeDue, hd]

/-! ## Orders -/

theorem State.handedOrder_eq_some {s : State} {kind : OrderKind} {t : Taken} :
    s.handedOrder kind = some t ↔ s.ord.taken = some t ∧ t.phase = .handed ∧ t.kind = kind := by
  unfold State.handedOrder
  cases h : s.ord.taken with
  | none => simp
  | some x =>
    constructor
    · intro hx
      dsimp only at hx
      split at hx
      · next hc => cases hx; exact ⟨rfl, hc⟩
      · cases hx
    · rintro ⟨hx, hc⟩
      cases hx
      simp [hc]

theorem State.answerOrder_of {s : State} {t : Taken} (owner : State → Taken → Answer)
    (h : s.ord.taken = some t) (hp : t.phase = .handed) :
    s.answerOrder t.kind owner = State.completeWith (owner s t) := by
  have : s.handedOrder t.kind = some t := State.handedOrder_eq_some.2 ⟨h, hp, rfl⟩
  simp [State.answerOrder, this]

/-- With no order handed over there is nothing to act on. -/
theorem State.actOrders_none {s : State} (n : Nat) (h : s.orderHanded = false) : s.actOrders n = s := by
  cases n <;> simp [State.actOrders, h]

/-! ## What comes from outside -/

/-- R172: a write that touches one word. -/
@[simp] theorem State.hostWords_one (addr : Nat) (bytes : List Byte) (a : Nat) (s : State) :
    State.hostWords addr bytes [a] s = s.hostWord addr bytes a := rfl

@[simp] theorem State.hostWords_nil (addr : Nat) (bytes : List Byte) (s : State) :
    State.hostWords addr bytes [] s = s := rfl

/-- R189: a host write finds nothing during a reset. -/
theorem State.hostWrite_resetting {s : State} (addr : Nat) (bytes : List Byte) (h : s.resetting.isSome = true) :
    s.hostWrite addr bytes = s := by simp [State.hostWrite, h]

/-- R45: no frame is judged during a reset. -/
theorem State.receive_resetting {s : State} (bs : List Byte) (h : s.resetting.isSome = true) : s.receive bs = s := by
  simp [State.receive, h]

/-- With no cycle start due now an arrival belongs to the cycle in progress. -/
theorem State.intoCycle_self {s : State} (h : s.isDue .cycleStart = false) : s.intoCycle = s := by
  simp [State.intoCycle, h]

@[simp] theorem State.readRegister_length (s : State) (offset count : Nat) :
    (s.readRegister offset count).length = count := by simp [State.readRegister]

/-! ## Trip -/

@[simp] theorem State.setTrp_self (s : State) : s.setTrp s.trp = s := by simp [State.setTrp]

@[simp] theorem State.setTrp_trp (s : State) (t : Trp) : (s.setTrp t).trp = t := by
  unfold State.setTrp; split <;> simp_all

/-- R135: what a change of TRP's content can touch. -/
theorem State.setTrp_frame (s : State) (t : Trp) :
    s.setTrp t = { s with trp := t, tripNumber := (s.setTrp t).tripNumber, cram := (s.setTrp t).cram } := by
  unfold State.setTrp; split
  · next h => subst h; rfl
  · rfl

/-- R132: a detection with the latch set changes TRP's list and the trip record alone. -/
theorem State.detectFrom_latched (s : State) (t : Trp) (c : Cause) (time : Word) (h : s.trp.latch = true) :
    s.detectFrom t c time = s.setTrp (t.listed c time) := by simp [State.detectFrom, h]

/-- R76: outside a computation, with no flush owed, settling a trip does nothing. -/
theorem State.settleTrip_none (s : State) (h : s.trk.tripFlush = false) : s.settleTrip = s := by
  unfold State.settleTrip; split
  · rfl
  · simp [State.tripFlushNow, h]

/-! ## Counters -/

/-- R146: with no counter that passes the event, nothing changes. -/
theorem State.raise_none (s : State) (e : Event) (time : Word)
    (h : ∀ n, (s.evc.counters.get n).passes e = false) : s.raise e time = s := by
  have : ∀ ns : List (Fin 8), ns.foldl (State.countOne e time) s = s := by
    intro ns
    induction ns with
    | nil => rfl
    | cons n ns ih => simpa [State.countOne, h n] using ih
  exact this _

/-- What neither a detection nor an event of EVC can touch (R130, R146): the time base, the computation in progress, GAP, RPT,
ORD and HIF, the slots, and all of TRK but its head windows and the flush it owes. -/
structure State.Kept (s t : State) : Prop where
  time : t.time = s.time
  clock : t.clock = s.clock
  comp : t.comp = s.comp
  gap : t.gap = s.gap
  rpt : t.rpt = s.rpt
  ord : t.ord = s.ord
  hif : t.hif = s.hif
  lastCoil : t.evc.lastCoil = s.evc.lastCoil
  active : t.stu.active = s.stu.active
  pending : t.stu.pending = s.stu.pending
  track : t.trk.state = s.trk.state
  segs : t.trk.segs = s.trk.segs
  creation : t.trk.creation = s.trk.creation
  q : t.trk.q = s.trk.q
  qGauge : t.trk.qGauge = s.trk.qGauge
  nextId : t.trk.nextId = s.trk.nextId
  created : t.trk.created = s.trk.created

theorem State.Kept.refl (s : State) : s.Kept s := by constructor <;> rfl

theorem State.Kept.trans {s t u : State} (h : s.Kept t) (g : t.Kept u) : s.Kept u := by
  constructor
  · exact g.time.trans h.time
  · exact g.clock.trans h.clock
  · exact g.comp.trans h.comp
  · exact g.gap.trans h.gap
  · exact g.rpt.trans h.rpt
  · exact g.ord.trans h.ord
  · exact g.hif.trans h.hif
  · exact g.lastCoil.trans h.lastCoil
  · exact g.active.trans h.active
  · exact g.pending.trans h.pending
  · exact g.track.trans h.track
  · exact g.segs.trans h.segs
  · exact g.creation.trans h.creation
  · exact g.q.trans h.q
  · exact g.qGauge.trans h.qGauge
  · exact g.nextId.trans h.nextId
  · exact g.created.trans h.created

/-- R135: a change of TRP's content. -/
theorem State.setTrp_kept (s : State) (t : Trp) : s.Kept (s.setTrp t) := by
  rw [s.setTrp_frame t]; constructor <;> rfl

/-- R130: a detection. -/
theorem State.detect_kept (s : State) (c : Cause) (time : Word) : s.Kept (s.detect c time) := by
  unfold State.detect State.detectFrom
  split
  · exact s.setTrp_kept _
  · refine (s.setTrp_kept (s.trp.latched (s.firstOutOf c time))).trans ?_
    constructor <;> rfl

/-- R150 to R153: one counter takes an event. -/
theorem State.countOne_kept (e : Event) (time : Word) (s : State) (n : Fin 8) : s.Kept (State.countOne e time s n) := by
  unfold State.countOne
  dsimp only
  split
  · split
    · split
      · constructor <;> rfl
      · constructor <;> rfl
      · refine State.Kept.trans ?_ (State.detect_kept _ _ _)
        constructor <;> rfl
    · constructor <;> rfl
  · exact .refl s

/-- R146 to R153: an event, whatever its counters do. -/
theorem State.raise_kept (s : State) (e : Event) (time : Word) : s.Kept (s.raise e time) := by
  have : ∀ (ns : List (Fin 8)) (s : State), s.Kept (ns.foldl (State.countOne e time) s) := by
    intro ns
    induction ns with
    | nil => exact .refl
    | cons n ns ih => exact fun s => (State.countOne_kept e time s n).trans (ih _)
  exact this _ s

/-! ## Switching -/

/-- R9: with nothing pending the switch test does nothing. -/
theorem State.switchTest_none {s : State} (h : s.stu.pending = none) : s.switchTest = s := by
  simp [State.switchTest, allStands, switchThrough, h]

/-- R9: the switch test at stand k, in its increasing order. -/
theorem switchThrough_cons {s : State} {p : HeldSchedule} (k : Stand) (ks : List Stand) (h : s.stu.pending = some p) :
    switchThrough (k :: ks) s =
      if (s.stand k).use = .pending then switchThrough ks s
      else if s.free k then switchThrough ks (s.switchStand p k) else s := by
  simp [switchThrough, h]

/-! ## Reports -/

/-- R160, R165, R162: a report is written or lost, and exactly one of the two counts rises. -/
theorem State.report_counts (s : State) (g : Segment) (a : Assessment) (e : Bool) (time : Word) :
    ((s.report g a e time).rpt.reported = s.rpt.reported + 1 ∧ (s.report g a e time).rpt.lost = s.rpt.lost) ∨
    ((s.report g a e time).rpt.reported = s.rpt.reported ∧ (s.report g a e time).rpt.lost = s.rpt.lost + 1) := by
  have hs : ∀ s : State, s.search.rpt.reported = s.rpt.reported ∧ s.search.rpt.lost = s.rpt.lost := by
    intro s; unfold State.search; split <;> simp [State.openPage]
  have hc : ∀ s : State, s.closeCurrent.rpt.reported = s.rpt.reported ∧ s.closeCurrent.rpt.lost = s.rpt.lost := by
    intro s; exact hs _
  have hw : ∀ (s : State), (s.writeReport g a time).rpt.reported = s.rpt.reported + 1 ∧
      (s.writeReport g a time).rpt.lost = s.rpt.lost := by
    intro s; unfold State.writeReport; dsimp only; split <;> simp
  have h0 : ∀ s : State, (if s.filling then s else s.search).rpt.reported = s.rpt.reported ∧
      (if s.filling then s else s.search).rpt.lost = s.rpt.lost := by
    intro s; split
    · simp
    · exact hs s
  unfold State.report
  dsimp only
  generalize hg : (if s.filling then s else s.search) = s1
  have h1 := h0 s
  rw [hg] at h1
  split
  · left
    split
    · have := hc (s1.writeReport g a time); have := hw s1; simp_all
    · have := hw s1; simp_all
  · right; simp [State.loseReport, h1]

end Sys2Proof.Machine
end

