-- ==== Sys2Proof/Tests/Slice0.lean ====
section
/-! SUPPORT. Own tests: ill-formed commands, what the specification's worked examples and tables give, one small case for
each command, and for every obligation with hypotheses a state that meets them. -/

namespace Sys2Proof.Tests

-- one theorem at a time: a hundred kernel evaluations at once would need a thread and its stack each
set_option Elab.async false

open Sys2Proof.Machine Sys2Proof.Safety

/-! ## Ill-formed commands are refused -/

theorem test_partReset_needs_bit0 : WellFormed (.partReset 0 2) = false := by decide
theorem test_resetCompletion_within_150 : WellFormed (.resetCompletion 151) = false := by decide
theorem test_commanded_without_bit0 : WellFormed (.commanded 0 3) = false := by decide
theorem test_newsRead_stays_in_the_word : WellFormed (.newsRead 0 2 3) = false := by decide
theorem test_newsRead_reads_something : WellFormed (.newsRead 0 0 0) = false := by decide
theorem test_ignored_is_no_full_ctrl_write : WellFormed (.ignoredRegisterWrite 0 4 [1, 0, 0, 0]) = false := by decide
theorem test_ignored_writes_something : WellFormed (.ignoredRegisterWrite 0 0 []) = false := by decide
theorem test_hostCramWrite_in_the_window : WellFormed (.hostCramWrite 0 0x3FFFF [1, 2]) = false := by decide
theorem test_hostCramWrite_writes_something : WellFormed (.hostCramWrite 0 0x8000 []) = false := by decide
theorem test_reply_has_octets : WellFormed (.reply 0 []) = false := by decide

/-- The table gives no row a bit (log entry 4). -/
theorem test_no_word_spells_a_command (nbits w : Nat) : decodeTableWord nbits w = none := rfl

/-! ## Numbers of the specification -/

/-- R191 with R190: the check value of this CRC (generator 0x1021, start 0xFFFF, no reflection) over "123456789", known from
outside the specification. -/
theorem test_crc_check_value :
    crc16 [0x31, 0x32, 0x33, 0x34, 0x35, 0x36, 0x37, 0x38, 0x39] = 0x29B1 := by decide +kernel

/-- 5.12. -/
theorem test_rounding_examples :
    (roundDiv 500 1000, roundDiv (-500) 1000, roundDiv (-2560) 1024, roundDiv 2560 1024, roundDiv (-256) 256,
      roundDiv 128 256) = (1, -1, -3, 3, -1, 1) := by decide

/-- 5.10: the entry of stand 5. -/
def entry5 : StandEntry :=
  { sSet := 3600, sMin := 1000, sMax := 40000, sOpen := 30000, c := 180, f0 := 1500, hTgt := 5580, kg := 2560, kf := 1434
    share := 64, dStep := 50, iMax := 2000, trimMax := 500, nLock := 0, fOn := 500, fOff := 200, fMax := 20000, dSpan := 5000
    win := 64, slip := 4301, devLim := 100, nDev := 3 }

/-- 5.11: the entry of stand 6. -/
def entry6 : StandEntry :=
  { entry5 with sSet := 1650, sMin := 1500, sMax := 30000, c := 150, f0 := 2000, hTgt := 3800, kg := 512, kf := 3072 }

/-- A schedule of stands 4 to 6, with the h_tgt of stand 5. -/
def coilA (hTgt5 : Nat) : Schedule :=
  { serial := 0, coilId := 7, vSeg := 1000, vBar := 9000, vTail := 2000, hFin := 3000, tol := 30, km := 1024, miMax := 100
    entries := Table.build (fun k =>
      if k = 3 then some { entry5 with hTgt := 8100 }
      else if k = 4 then some { entry5 with hTgt := hTgt5 }
      else if k = 5 then some entry6 else none) }

/-- The segment of 5.10 or 5.11, last across a stand with a mean thickness. -/
def seg (k : Stand) (h : Nat) : Segment :=
  { id := 0, coilId := 7, serial := 0, pathLen := 3, zone := .body, degraded := false, reused := false, trip := false
    noGauge := false, list := [(k, some h)], sum := 0, count := 0, gaugeSum := 0, gaugeCount := 0 }

/-- What GAP reads of a stand in GAUGE. -/
def gaugeInput (hTgt5 : Nat) (e : StandEntry) (h : Nat) (trim i mi : Int) (g : Segment) : LawInput :=
  { sched := some (coilA hTgt5), entry := some e, hgm := some h, mode := .gauge, trim := trim, hLock := none, integrator := i
    mi := mi, trk := { Trk.reset 0 with state := .normal, segs := [g] }, deviation := false }

/-- 5.10: the stretch and the gaugemeter thickness. -/
theorem test_gaugemeter_stand5 : (stretch entry5 14820, gaugemeter entry5 3210 14820) = (2398, 5608) := by decide

/-- 5.10. -/
theorem test_gap_law_stand5 :
    formBefore (gaugeInput 5580 entry5 5608 20 (-310) (-64) (seg 3 8132)) 4 =
      { computed := ⟨some 5608, some 28, some (-50), some (-360), some (-45), some (-16)⟩, ref := .um 3199
        candidate := -360, stepLimited := true, authority := false, range := false, deviation := false
        inService := true, zone := some .body } := by decide +kernel

/-- 5.11. -/
theorem test_gap_law_stand6 :
    let f := formBefore (gaugeInput 5000 entry6 (gaugemeter entry6 1480 18000) 0 (-100) (-40) (seg 4 5010)) 5
    (f.ref, f.candidate, f.range, f.computed.u, f.computed.ff, f.computed.m) =
      (.um 1500, -100, true, some (-40), some (-30), some (-10)) := by decide +kernel

/-- 5.14: the deviation count of stand 3, cycle by cycle. -/
theorem test_stuck_actuator :
    let e := some { entry5 with devLim := 100, nDev := 3 }
    let t (gap : Option Nat × Mark) (n : Nat) := (deviationStep e .loaded false (some 4000) gap (some 15000) n).1
    (t (some 4080, .fresh) 0, t (some 4130, .fresh) 0, t (some 4130, .held) 1, t (some 4150, .fresh) 1,
      t (some 4160, .fresh) 2) = (0, 1, 1, 2, 3) := by decide

/-- R56: with F absent the deviation of a fresh S is not counted. -/
theorem test_deviation_needs_force :
    deviationStep (some entry5) .loaded false (some 4000) (some 4130, .fresh) none 1 = (1, false) := by decide

/-- R89: in POSITION the integrator is published as it is; R94, first row, the same. -/
theorem test_position_publishes_the_integrator :
    let x := gaugeInput 5580 entry5 5608 20 (-310) (-64) (seg 3 8132)
    (formBefore { x with mode := .position } 4).computed = ⟨some 5608, some 28, some 0, some (-310), none, none⟩ ∧
    (formBefore { x with hgm := none, deviation := true } 4).computed.i = some (-310) ∧
    (formBefore { x with hgm := none, deviation := true } 4).deviation = false := by decide +kernel

/-- R114, R190: with no assessment held the change of MI and MI after it are absent. -/
theorem test_no_assessment :
    (assessmentWords none).drop 7 = [0x80000000, 0x80000000, 0, 0, 0] := by decide

/-- R107: with tol = 30 an em of +30 is IN and +31 is THICK. -/
theorem test_band_edges : (qualityOf 30 30, qualityOf 31 30, qualityOf (-31) 30) = (.inBand, .thick, .thin) := by decide

/-- R48: with W = 127 an E of 121 becomes 129; R49: from 248 a bad cycle excludes. -/
theorem test_error_steps :
    (healthStep 127 .active 121 0 false, healthStep 96 .degraded 248 0 false, healthStep 96 .degraded 128 0 true) =
      ((.degraded, 129, 0), (.excluded, 255, 0), (.warned, 127, 0)) := by decide

/-- R150: the value wraps to 0 at an overflow. -/
theorem test_counter_wraps :
    (Counter.counted { Counter.reset with value := 0xFFFFFFFF }).value = 0 ∧
    (Counter.counted { Counter.reset with value := 0xFFFFFFFF }).flag = true := by decide

/-- R189 with the reset rules of the chapters: State.reset is what a power-on reset and its completion leave. -/
theorem test_reset_is_a_completed_power_on : State.reset.powerOn.completeReset = State.reset := by decide +kernel

/-! ## States for the commands -/

/-- The state after a command; the state itself where it stops. -/
def after (c : Instr) (s : State) : State :=
  match exec c s with
  | .next t => t
  | .fault _ => s
  | .refused _ => s

/-- State.reset with nothing in CRAM. -/
def blank : State := { State.reset with cram := [] }

/-- A node of a link start. -/
def node (address : Byte) (role : Role) (stand : Option Stand) : Node :=
  { address := address, role := role, stand := stand, health := .active, errors := 0, clean := 0, value := none
    strip := false, mark := .none, held := 0, result := none, verdicts := [], lastGood := none, nodeReady := false
    localFault := false, echo := none }

/-- The nodes of stand 1 and the exit gauge. -/
def nodes1 : List Node :=
  [node 11 .gap (some 0), node 12 .force (some 0), node 13 .speed (some 0), node 90 .exitGauge none]

/-- A cycle that began at µs 0. -/
def cycle1 : Cycle := ⟨1, 0, [11, 12, 13, 90], [], [], false, false, false, false, false⟩

/-- The link runs: `now` µs into cycle 1, T_cyc 1000, T_rd 600, T_cmd 700. -/
def linked (now : Nat) (latch : Bool) (state : RunState) : State :=
  { blank with
    clock := now
    time := BitVec.ofNat 32 now
    lnk := ⟨state, nodes1, some ⟨1000, 600, 700⟩, 96, 1, some cycle1, [], [], false, 0⟩
    trp := { blank.trp with latch := latch, firstOut := none }
    tripOut := !latch
    news := { News.zero with trip := latch } }

/-- The cycle in progress with everything but its end behind it. -/
def passed (s : State) : State :=
  { s with lnk := { s.lnk with cycle := s.lnk.cycle.map (fun (c : Cycle) =>
      { c with due := true, started := true, offsetPassed := true, ended := true }) } }

/-- An order just handed to its owner. -/
def handed (kind : OrderKind) (args : List Word) (s : State) : State :=
  { s with ord := ⟨[], some ⟨3, kind, args, .handed⟩⟩ }

/-- Words in the staging area. -/
def staged (ws : List Word) (s : State) : State := { s with cram := s.cram.writeWords 0x08000 ws }

/-- 11.4: a link configuration record of the nodes of `nodes1`. -/
def linkRecord : List Word :=
  [1000, 600, 700, 0, 4, packBytes 11 1 1 0, packBytes 12 2 1 0, packBytes 13 3 1 0, packBytes 90 4 0 0]

/-- 11.4: a schedule record of stand 1. -/
def scheduleRecord (coil : Word) : List Word :=
  [coil, 1, 1, 1000, 9000, 2000, 3000, 30, 1024, 100, 0, 0, 0, 0, 0, 0,
   3600, 1000, 40000, 30000, 180, 1500, 5580, 2560, 1434, 64, 50, 2000, 500, 0, 500, 200, 20000, 5000, 64, 4301, 100, 3,
   0, 0]

/-- The schedule of that record. -/
def coilB : Schedule := readSchedule (scheduleRecord 9) 0

/-- Stand 1 LOADED under coilB, the others without strip. -/
def rolling (s : State) : State :=
  { s with stu := { s.stu with
      active := some ⟨coilB, false⟩
      stands := Table.build (fun k => { StandRec.reset with use := .active, bite := if k = 0 then .loaded else .empty }) } }

/-- Counter 0 full, passing every event of a group, its action TRIP. -/
def counting (group : EventGroup) (s : State) : State :=
  { s with evc := { s.evc with counters := s.evc.counters.set 0 ⟨group, 0xFF, 7, 0x7F, false, .trip, 0, 0xFFFFFFFF, false⟩ } }

/-- A state with every step of the part's own still ahead or due now. -/
theorem timely_of {s : State} (h : (dueOrder.all (fun d => (s.dueAt d).all (fun t => decide (s.clock ≤ t)))) = true) :
    Timely s := by
  intro d t ht
  have hd : d ∈ dueOrder := by cases d <;> decide
  have := List.all_eq_true.1 h d hd
  simpa [ht] using this

/-- Besides, with no order handed to its owner. -/
theorem settled_of {s : State} (h : (dueOrder.all (fun d => (s.dueAt d).all (fun t => decide (s.clock ≤ t)))) = true)
    (ho : s.dueAt .order = none) : Settled s := ⟨timely_of h, ho⟩

/-! ## One case for each command -/

/-- R189: NEWS reads TRIP alone from the taking of a power-on reset on. -/
theorem test_powerOnReset :
    let t := after (.powerOnReset 5) (linked 600 false .ready)
    (t.resetting, t.news.word, t.lnk.runState) = (some ⟨.powerOn, 605, .halted⟩, 4, .halted) := by decide +kernel

/-- R140: the first-out of a part reset carries the run state before it. -/
theorem test_partReset :
    (after (.partReset 0 1) (linked 600 false .ready)).trp.firstOut = some ⟨.partReset, 0, 0, .ready, none⟩ := by
  decide +kernel

/-- R189: a function-level reset has the effects of a part reset. -/
theorem test_functionLevelReset :
    after (.functionLevelReset 7) (linked 600 false .ready) = after (.partReset 7 1) (linked 600 false .ready) := by
  decide +kernel

/-- R189, R141: with TRIP_IN low at the completion EXTERNAL is listed and stays no first-out. -/
theorem test_resetCompletion_low :
    let t := after (.resetCompletion 9) { State.reset.powerOn with tripIn := false }
    (t.trp.list, t.trp.firstOut.map (·.cause), t.word 0x00400) = ([(.external, 0)], some .powerOn, 1) := by decide +kernel

/-- R119: COMMANDED latches. -/
theorem test_commanded :
    let t := after (.commanded 0 2) (linked 600 false .ready)
    (t.trp.firstOut.map (·.cause), t.tripOut, t.news.trip, t.trk.state) = (some .commanded, false, true, .lost) := by
  decide +kernel

/-- R187: a read of NEWS clears all but TRIP. -/
theorem test_newsRead :
    let t := after (.newsRead 0 0 4) { blank with news := ⟨true, false, true, false, false, true, false⟩ }
    (t.readData, t.news.word) = (0x25, 4) := by decide +kernel

/-- R185, R188: NEWS_EN keeps seven bits, and the set TRIP bit raises the request at once. -/
theorem test_newsEnWrite :
    let t := after (.newsEnWrite 0 0xFFFFFFFF) blank
    (t.newsEn.word, t.irq, t.irqSignals) = (0x7F, true, 1) := by decide +kernel

/-- R185: a read of two bytes at 0x02 finds the upper half of ID. -/
theorem test_readRegister_bytes : blank.readRegister 2 2 = [0x5A, 0x7C] := by decide +kernel

/-- R185: a write of two bytes to NEWS_EN is ignored. -/
theorem test_ignoredRegisterWrite : after (.ignoredRegisterWrite 0 0x0C [1, 0]) blank = blank := by
  decide +kernel

/-- R172: an unaligned staging write; R174: a word of the status area is dropped and counted. -/
theorem test_hostCramWrite :
    let t := after (.hostCramWrite 0 0x08003 [0xAB, 0xCD]) blank
    let u := after (.hostCramWrite 0 0x01000 [0, 0, 0, 0]) blank
    (t.word 0x08000, t.word 0x08004, u.hif.violations, u.hif.last.reason, u.word 0x01000) =
      (0xAB000000, 0xCD, 1, .partArea, 0) := by decide +kernel

/-- Log entry 6. -/
theorem test_hostCramWrite_outside : exec (.hostCramWrite 0 0x3FFFF [1, 2]) blank = .fault .outsideWindow := rfl

/-- R177, R178: a POSTED write has ORD take the order. -/
theorem test_post :
    let t := after (.hostCramWrite 0 (slotBase 31) (wordBytes slotPosted))
      { blank with cram := blank.cram.writeWord (slotBase 31 + 4) 4 }
    (t.slotState 31, t.ord.taken.map (·.kind)) = (slotTaken, some .cancelPending) := by decide +kernel

/-- R25, R22, R23, 11.7: a link start sends the SYNC of cycle 1, run state READY, trip flag set. -/
theorem test_linkConfigure :
    let t := after .linkConfigure (handed .linkConfigure [0] (staged linkRecord blank))
    (t.lnk.runState, t.lnk.cycleNumber, t.linkOut, t.slotState 3) =
      (.ready, 1, [withCrc [0x51, 1, 0, 1, 1]], slotDone) := by decide +kernel

/-- R41: READY in HALTED with an empty node table. -/
theorem test_runStateReady :
    let t := after .runStateReady (handed (.runState .ready) [2] blank)
    (t.slotState 3, t.word (slotBase 3 + 0x40)) = (slotRefused, 4) := by decide +kernel

/-- R40, R42: RUN waits for the cycle start and is then applied. -/
theorem test_runStateRun :
    let t := after .cycleStart (after .runStateRun (handed (.runState .run) [3] (rolling (passed (linked 1000 false .ready)))))
    (t.lnk.runState, t.slotState 3, t.lnk.cycleNumber) = (.run, slotDone, 2) := by decide +kernel

/-- R43, R123: HALT stops the link at the cycle start and latches. -/
theorem test_runStateHalt :
    let t := after .cycleStart (after .runStateHalt (handed (.runState .halt) [1] (passed (linked 1000 false .ready))))
    (t.lnk.runState, t.trp.firstOut.map (·.cause), t.linkOut) = (.halted, some .halt, []) := by decide +kernel

/-- R2: the copy takes 40 µs. -/
theorem test_loadSchedule :
    (after .loadSchedule (handed .loadSchedule [0] (staged (scheduleRecord 9) (linked 600 true .ready)))).dueAt .copyEnd =
      some 640 := by decide +kernel

/-- R2, R175: a staging write in the very µs of the taking comes after the copy of it. -/
theorem test_copy_is_of_the_taking :
    let s := { staged (scheduleRecord 9) (linked 600 true .ready) with
      cram := ((staged (scheduleRecord 9) blank).cram).writeWord (slotBase 0 + 4) 3 }
    let t := after (.hostCramWrite 0 0x08000 (wordBytes 8)) (after (.hostCramWrite 0 (slotBase 0) (wordBytes slotPosted)) s)
    (t.word 0x08000, t.ord.taken.map (fun x => match x.phase with
      | .copying e c => (e, c.map (fun ws => ws.getD 0 0))
      | .handed => (0, none)
      | .waiting => (0, none))) = (8, some (640, some 9)) := by decide +kernel

/-- R172, R178: an order posted by the first word of a write is answered before the second, which finds the slot REFUSED. -/
theorem test_post_within_a_write :
    let s := { blank with cram := blank.cram.writeWord (slotBase 0 + 4) 10 }
    let t := after (.hostCramWrite 0 (slotBase 0) (wordBytes slotPosted ++ wordBytes 4)) s
    (t.slotState 0, t.word (slotBase 0 + 0x40), t.word (slotBase 0 + 4), t.hif.last.reason) =
      (slotRefused, 11, 10, .bodyFrozen) := by decide +kernel

/-- R6, R9, R11: on an empty mill the schedule becomes active at once. -/
theorem test_scheduleCopyEnd :
    let s := handed .loadSchedule [0] (staged (scheduleRecord 9) { linked 600 true .ready with comp := none })
    let t := after .scheduleCopyEnd (after .loadSchedule s)
    (t.stu.active.map (·.sched.coilId), t.stu.pending, t.word (slotBase 3 + 0x44), t.news.coil) =
      (some 9, none, 7, true) := by decide +kernel

/-- R7: nothing pending. -/
theorem test_cancelPending :
    (after .cancelPending (handed .cancelPending [] blank)).word (slotBase 3 + 0x40) = 11 := by decide +kernel

/-- R16: GAUGE is refused while the latch is set; POSITION is not. -/
theorem test_setMode :
    let t (m : Word) := after .setMode (handed .setMode [1, m] (rolling blank))
    ((t 2).word (slotBase 3 + 0x40), (t 1).word (slotBase 3 + 0x40)) = (5, 1) := by decide +kernel

/-- R21: a trim beyond trim_max is clamped. -/
theorem test_operatorTrim :
    let t := after .operatorTrim (handed .operatorTrim [1, -900] (rolling blank))
    ((t.stand 0).trim, t.word (slotBase 3 + 0x44)) = (-500, -500) := by decide +kernel

/-- R52. -/
theorem test_nodeRejoin :
    let s := { blank with lnk := { blank.lnk with
      nodes := [{ node 11 .gap (some 0) with health := .excluded, errors := 255 }] } }
    let t := after .nodeRejoin (handed .nodeRejoin [11] s)
    (t.lnk.nodes.map (·.health), t.news.node) = ([.rejoining], true) := by decide +kernel

/-- R137: the latch clears, TRIP_OUT is energized and NEWS.TRIP reads 0. -/
theorem test_tripReset :
    let t := after .tripReset (handed .tripReset [] (linked 600 true .ready))
    (t.trp.latch, t.tripOut, t.news.trip, t.slotState 3) = (false, true, false, slotDone) := by decide +kernel

/-- R143, R144: the masks lose the flags the group does not define; the result words carry the old value. -/
theorem test_counterProgram :
    let t := after .counterProgram (handed .counterProgram [7, 4, 0xFF, 0xFF, 0xFF, 1, 2, 0xFFFFFFFF] blank)
    t.evc.counters.get 7 = ⟨.track, 0x0F, 7, 0x7F, true, .trip, 0xFFFFFFFF, 0xFFFFFFFF, false⟩ ∧
      t.word (slotBase 3 + 0x40) = 1 := by decide +kernel

/-- R168: a FILLING page with no report is not closed. -/
theorem test_closePage_empty :
    (after .closePage (handed .closePage [] blank)).word (slotBase 3 + 0x40) = 11 := by decide +kernel

/-- R168, R164: page 0 closes and page 1 is opened with the next sequence number. -/
theorem test_closePage :
    let t := after .closePage (handed .closePage [] { blank with cram := (Memory.writeWords [] 0x10000 [1, 1, 1]) })
    (t.pageState 0, t.pageState 1, t.word 0x11004, t.cram.readWords (slotBase 3 + 0x40) 4) =
      (pageFull, pageFilling, 2, [1, 0, 1, 1]) := by decide +kernel

/-- R22, R23: the next cycle start. -/
theorem test_cycleStart :
    let t := after .cycleStart (passed (linked 990 true .ready))
    (t.clock, t.linkOut, t.lnk.cycle.map (·.startAt)) = (1000, [withCrc [0x51, 2, 0, 1, 1]], some 1000) := by
  decide +kernel

/-- R26: a GOOD reply of the gap node, value 3,210 µm. -/
theorem test_reply :
    let t := after (.reply 100 (withCrc [0x52, 11, 3, 0x8A, 0x0C, 0, 0, 0, 0])) (linked 100 true .ready)
    t.lnk.cycle.map (·.log) = some [⟨11, .good, 200⟩] := by decide +kernel

/-- R35: a reply in the µs of a cycle start has offset 0 in the cycle that starts. -/
theorem test_reply_at_the_cycle_start :
    let t := after (.reply 10 (withCrc [0x52, 11, 3, 0x8A, 0x0C, 0, 0, 0, 0])) (passed (linked 990 true .ready))
    (t.lnk.cycleNumber, t.lnk.cycle.map (·.log)) = (2, some [⟨11, .good, 0⟩]) := by decide +kernel

/-- R27, R28, R31: T_rd brings compute start; every node is MISSING, and no stand is in service: 16 µs. -/
theorem test_replyDeadline :
    let t := after .replyDeadline (linked 100 true .ready)
    (t.clock, t.lnk.nodes.map (·.errors), t.comp.map (·.endAt)) = (600, [8, 8, 8, 8], some 616) := by decide +kernel

/-- R31, R183: the compute end writes the status area. -/
theorem test_computeEnd :
    let t := after .computeEnd (after .replyDeadline (linked 100 true .ready))
    (t.clock, t.comp, t.word 0x01000, t.lnk.cycle.map (·.ended)) = (616, none, 2, some true) := by decide +kernel

/-- R33, 11.7: latch set, no schedule: OPEN_FULL for the one GAP node, flags TRIP and HELD (READY). -/
theorem test_commandOffset :
    let t := after .commandOffset (after .computeEnd (after .replyDeadline (linked 100 true .ready)))
    t.linkOut = [withCrc [0x53, 1, 0, 3, 1, 11, 0xFE, 0xFF, 0xFF, 0xFF]] := by decide +kernel

/-- R118, R20, R44. -/
theorem test_tripInLow :
    let t := after (.tripInLow 3) (linked 600 false .run)
    (t.trp.firstOut.map (fun f => (f.cause, f.time, f.runBefore)), t.lnk.runState) =
      (some (.external, 603, .run), .ready) := by decide +kernel

/-- R118, R117: EXTERNAL leaves, the latch stays. -/
theorem test_tripInHigh :
    let t := after (.tripInHigh 1) (after (.tripInLow 0) (linked 600 false .ready))
    (t.trp.present.external, t.trp.latch) = (false, true) := by decide +kernel

/-! ## Every statement's hypotheses can be met -/

theorem witness_CommandsKeepQueueAndComplete :
    (∃ t, exec .computeEnd blank = .next t) ∧ blank.pending = [] ∧ Config.cramSize < 0x3FFFF + [(1 : Byte), 2].length :=
  ⟨⟨_, rfl⟩, rfl, by decide⟩

theorem witness_ResetsTaken : (blank.elapse 3).resetting = none ∧ (1 : Word).getLsbD 0 = true := by decide +kernel

theorem witness_ResetInProgressIgnoresTheHost :
    (blank.powerOn.elapse 150).resetting = some ⟨.powerOn, 0, .halted⟩ ∧ 0x3FFFF + [(1 : Byte)].length ≤ 0x40000 := by
  decide +kernel

theorem witness_ResetCompletionWrites :
    (blank.powerOn.elapse 150).resetting = some ⟨.powerOn, 0, .halted⟩ ∧ (blank.powerOn.elapse 150).tripIn = true ∧
    ({ blank.powerOn with tripIn := false }.elapse 0).resetting = some ⟨.powerOn, 0, .halted⟩ ∧
    ({ blank.powerOn with tripIn := false }.elapse 0).tripIn = false := by decide +kernel

theorem witness_CompletedPowerOnIsReset : (blank.elapse 1).tripIn = true := by decide +kernel

/-- NEWS read at its first and its last byte. -/
theorem witness_RegistersReadAndWrite :
    (blank.elapse 0).resetting = none ∧ IrqLaw (blank.elapse 0) ∧ 0 + 4 ≤ 4 ∧ (3 ≠ 0 ∧ 0 < 1 ∧ 3 + 1 ≤ 4) ∧
    ignoredWrite 0x04 3 = true ∧ ignoredWrite 0x0C 5 = true ∧ ignoredWrite 0x08 4 = true ∧
    blank.powerOn.resetting ≠ none := by
  unfold IrqLaw; decide +kernel

/-- COMMANDED as it stands, set, and cleared. -/
theorem witness_CommandedBitIsALevelCause :
    let s := linked 600 false .ready
    let c := after (.commanded 0 2) s
    (LevelLaw (s.elapse 0) ∧ FlushLaw (s.elapse 0) ∧ (s.elapse 0).resetting = none ∧ (s.elapse 0).ctrlCommanded = false ∧
      (s.elapse 0).trp.latch = false) ∧
    (LevelLaw (c.elapse 0) ∧ FlushLaw (c.elapse 0) ∧ (c.elapse 0).resetting = none ∧ (c.elapse 0).ctrlCommanded = true) ∧
    (LevelLaw (blank.elapse 0) ∧ FlushLaw (blank.elapse 0) ∧ (blank.elapse 0).ctrlCommanded = false ∧
      (blank.elapse 0).trp.latch = true) := by unfold LevelLaw FlushLaw; decide +kernel

/-- The last bytes of the staging area; the last word of a request part; a word and what follows it; a word that posts and
what follows it. -/
theorem witness_HostWritesTheirBytesWordByWord :
    (blank.elapse 0).resetting = none ∧ (0x08000 ≤ 0x0FFFE ∧ 0x0FFFE + [(1 : Byte), 2].length ≤ 0x10000) ∧
    ((blank.elapse 0).slotState 0 = slotEmpty ∧ slotBase 0 + 4 ≤ 0x0203E ∧
      0x0203E + [(1 : Byte), 2].length ≤ slotBase 0 + 0x40 ∧
      0x0203E + [(1 : Byte), 2].length ≤ 0x0203E / 4 * 4 + 4) ∧
    ((0x00FFD + [(1 : Byte), 2, 3].length) % 4 = 0 ∧ 0x3FFFC + [(1 : Byte), 2, 3].length + [(1 : Byte)].length ≤ 0x40000) ∧
    Settled (after (.hostCramWrite 0 0x00FFD [1, 2, 3]) blank) :=
  ⟨by decide +kernel, by decide, by decide +kernel, by decide, settled_of (by decide +kernel) (by decide +kernel)⟩

/-- The status area's last byte, three bytes of a slot's state word, the last request word of a TAKEN slot, the window's last
byte. -/
theorem witness_DroppedWordsCount :
    (blank.elapse 0).resetting = none ∧ (0x1000 ≤ 0x01FFC ∧ 0x01FFC < 0x2000 ∧ 0x01FFF + 1 ≤ 0x01FFF / 4 * 4 + 4) ∧
    (0x02F80 < 0x03000 ∧ 0x02F80 % 0x80 = 0 ∧ 0x02F81 / 4 * 4 = 0x02F80 ∧ [(1 : Byte), 2, 3].length < 4) ∧
    (let s := after (.hostCramWrite 0 (slotBase 31) (wordBytes slotPosted))
        { blank with cram := blank.cram.writeWord (slotBase 31 + 4) 4 };
      (s.elapse 0).slotState 31 ≠ slotEmpty ∧ slotBase 31 < 0x02FBC ∧ 0x02FBC < slotBase 31 + 0x40) ∧
    (0x03000 ≤ 0x07FFC ∧ 0x07FFC < 0x08000) ∧ (0x00200 ≤ 0x00200 ∧ 0x00200 < 0x00400) ∧
    (0x20000 ≤ 0x3FFFC ∧ 0x3FFFF + [(1 : Byte)].length ≤ 0x3FFFF / 4 * 4 + 4) := by decide +kernel

/-- The same value; DONE to EMPTY, FULL to FREE, HELD to ARMED; and TAKEN to EMPTY, which is dropped. -/
theorem witness_GuardedWordsFollowTheirTransitions :
    let s := { blank with
      cram := (((Memory.writeWord [] 0x00100 2).writeWord 0x02F80 3).writeWord 0x1F000 2).writeWord 0x02000 2 }
    (s.elapse 0).resetting = none ∧
    ((s.elapse 0).word 0x02F80 = slotDone ∧ 0x02F80 < 0x03000 ∧ 0x02F80 % 0x80 = 0) ∧
    ((s.elapse 0).word 0x1F000 = pageFull ∧ 0x1F000 < 0x20000 ∧ 0x1F000 % 0x1000 = 0) ∧
    (s.elapse 0).word 0x00100 = armHeld ∧ ((s.elapse 0).word 0x02000 = slotTaken ∧ slotEmpty ≠ slotTaken) := by
  decide +kernel

/-- A slot posted behind a TAKEN order that waits; posted to an idle ORD with the last kind, the kinds beside the ten, the
first and the last target and those beside them. -/
theorem witness_PostedOrderIsQueuedTakenOrRefused :
    let s (ws : List Word) : State := { blank with cram := blank.cram.writeWords (slotBase 31 + 4) ws }
    let idle (ws : List Word) : Prop := ((s ws).elapse 0).resetting = none ∧ ((s ws).elapse 0).ord = ⟨[], none⟩ ∧
      ((s ws).elapse 0).slotState 31 = slotEmpty
    (let s := { linked 600 true .ready with ord := ⟨[], some ⟨3, .runState .run, [], .waiting⟩⟩ };
      (s.elapse 0).resetting = none ∧ (s.elapse 0).slotState 31 = slotEmpty ∧ (s.elapse 0).ord.taken ≠ none) ∧
    (idle [10] ∧ ((s [10]).elapse 0).word (slotBase 31 + 0x04) = 10) ∧
    (idle [0] ∧ ((s [0]).elapse 0).word (slotBase 31 + 0x04) = 0) ∧
    (idle [11] ∧ 10 < (((s [11]).elapse 0).word (slotBase 31 + 0x04)).toNat) ∧
    (idle [2, 1] ∧ ((s [2, 1]).elapse 0).word (slotBase 31 + 0x08) = 1) ∧
    (idle [2, 3] ∧ ((s [2, 3]).elapse 0).word (slotBase 31 + 0x08) = 3) ∧
    (idle [2, 0] ∧ ((s [2, 0]).elapse 0).word (slotBase 31 + 0x08) = 0) ∧
    (idle [2, 4] ∧ 3 < (((s [2, 4]).elapse 0).word (slotBase 31 + 0x08)).toNat) := by decide +kernel

/-- With the queue empty, and with a slot behind it. -/
theorem witness_CompletionWritesTheOutcome :
    (∃ t, (handed .closePage [] blank).ord = ⟨[], some t⟩) ∧ (List.replicate 15 (0 : Word)).length ≤ 15 ∧
    (handed .closePage [] blank).lnk.runState = .halted ∧
    (handed .closePage [] (linked 0 true .ready)).lnk.runState ≠ .halted ∧
    (let s := { handed .closePage [] blank with
        cram := blank.cram.writeWord (slotBase 31 + 4) 4, ord := ⟨[31], some ⟨3, .closePage, [], .handed⟩⟩ };
      (31 : Fin 32) ≠ 3 ∧
      (parseKind (s.word (slotBase 31 + 0x04)) (s.cram.readWords (slotBase 31 + 0x08) 14)).rejected = none) :=
  ⟨⟨_, rfl⟩, by decide, by decide, by decide, by decide +kernel⟩

/-- The record in the last place of the staging area. -/
theorem witness_LinkConfigureStartsTheLink :
    let s := handed .linkConfigure [0x7F8C] { blank with cram := blank.cram.writeWords (0x08000 + 0x7F8C) linkRecord }
    let w (n : Nat) : Nat := (s.word (0x08000 + 0x7F8C + 4 * n)).toNat
    let address (j : Nat) : Byte := s.cram.read (0x08000 + 0x7F8C + 0x14 + 4 * j)
    let role (j : Nat) : Nat := (s.cram.read (0x08000 + 0x7F8C + 0x15 + 4 * j)).toNat
    let stand (j : Nat) : Nat := (s.cram.read (0x08000 + 0x7F8C + 0x16 + 4 * j)).toNat
    s.lnk.runState = .halted ∧ (0x7F8C % 4 = 0 ∧ 0x7F8C + 116 ≤ 0x8000) ∧ (w 0, w 1, w 2, w 3, w 4) = (1000, 600, 700, 0, 4) ∧
    (∀ j ∈ List.range 4, 1 ≤ (address j).toNat ∧ (address j).toNat ≤ 254 ∧ 1 ≤ role j ∧ role j ≤ 4 ∧
      (role j = 4 → stand j = 0) ∧ (role j ≠ 4 → 1 ≤ stand j ∧ stand j ≤ 7)) ∧
    (∀ k ∈ List.range 4, ∀ j ∈ List.range k, address j ≠ address k ∧ (role j ≠ 4 → (role j, stand j) ≠ (role k, stand k))) ∧
    ((List.range 4).filter (fun j => role j = 4)).length = 1 := by decide +kernel

/-- A state for each refusal of LINK_CONFIGURE: its run state, the words of the record at both edges of their ranges, and
the entries of one node table for each check of an entry, of a pair, and of the EXIT_GAUGE. -/
theorem witness_LinkConfigureRefusals :
    let s (ws : List Word) := handed .linkConfigure [0] (staged ws blank)
    let w (ws : List Word) (n : Nat) : Nat := ((s ws).word (0x08000 + 0 + 4 * n)).toNat
    let entries (es : List Word) : List Word := [250, 50, 58, 127, natWord es.length] ++ es
    let address (ws : List Word) (j : Nat) : Nat := ((s ws).cram.read (0x08000 + 0x14 + 4 * j)).toNat
    let role (ws : List Word) (j : Nat) : Nat := ((s ws).cram.read (0x08000 + 0x15 + 4 * j)).toNat
    let stand (ws : List Word) (j : Nat) : Nat := ((s ws).cram.read (0x08000 + 0x16 + 4 * j)).toNat
    let inRange (ws : List Word) (j : Nat) : Bool := decide (1 ≤ address ws j ∧ address ws j ≤ 254 ∧ 1 ≤ role ws j ∧ role ws j ≤ 4 ∧
      (role ws j = 4 → stand ws j = 0) ∧ (role ws j ≠ 4 → 1 ≤ stand ws j ∧ stand ws j ≤ 7))
    (handed .linkConfigure [0] (linked 0 true .ready)).lnk.runState ≠ .halted ∧ ¬ (0x7F90 % 4 = 0 ∧ 0x7F90 + 116 ≤ 0x8000) ∧
    (w [1000, 600, 700, 0, 0] 4 = 0 ∧ w [1000, 600, 700, 0, 25] 4 = 25) ∧
    (w [249, 600, 700, 0, 24] 0 = 249 ∧ w [2050, 600, 700, 0, 24] 0 = 2050 ∧ w [1001, 600, 700, 0, 1] 0 % 50 ≠ 0) ∧
    (w [250, 49, 58, 0, 1] 1 = 49 ∧ w [1000, 951, 700, 0, 1] 0 < w [1000, 951, 700, 0, 1] 1 + 50) ∧
    (w [1000, 600, 607, 0, 1] 2 < w [1000, 600, 607, 0, 1] 1 + 8 ∧ w [1000, 600, 961, 0, 1] 0 < w [1000, 600, 961, 0, 1] 2 + 40) ∧
    (w [250, 50, 58, 128, 1] 3 = 128 ∧ w [250, 50, 58, 128, 1] 1 + 8 ≤ w [250, 50, 58, 128, 1] 2) ∧
    (let t := entries [packBytes 1 1 7 0, packBytes 255 1 1 0]; w t 4 = 2 ∧ inRange t 0 = true ∧ address t 1 = 255) ∧
    (let t := entries [packBytes 254 5 1 0]; address t 0 = 254 ∧ role t 0 = 5) ∧
    (let t := entries [packBytes 254 4 1 0]; role t 0 = 4 ∧ stand t 0 = 1) ∧
    (let t := entries [packBytes 254 3 8 0]; role t 0 = 3 ∧ stand t 0 = 8) ∧
    (let t := entries [packBytes 1 1 1 0, packBytes 2 2 1 0, packBytes 2 3 1 0, packBytes 1 4 0 0];
      (∀ j ∈ List.range (w t 4), inRange t j = true) ∧ address t 1 = address t 2 ∧ address t 0 ≠ address t 1 ∧ address t 0 ≠ address t 2) ∧
    (let t := entries [packBytes 1 1 1 0, packBytes 2 2 1 0, packBytes 3 1 1 0];
      (∀ j ∈ List.range (w t 4), inRange t j = true) ∧ (∀ b ∈ List.range (w t 4), ∀ a ∈ List.range b, address t a ≠ address t b) ∧
      (role t 0, stand t 0) = (role t 2, stand t 2) ∧ (role t 0, stand t 0) ≠ (role t 1, stand t 1)) ∧
    (let t := entries [packBytes 1 4 0 0, packBytes 2 4 0 0];
      (∀ j ∈ List.range (w t 4), inRange t j = true) ∧ ((List.range (w t 4)).filter (fun j => role t j = 4)).length = 2) := by
  decide +kernel

theorem witness_RunStateOrdersAtTheirTaking :
    (let s := handed (.runState .ready) [2] { blank with lnk := { blank.lnk with
        nodes := [{ node 11 .gap (some 0) with health := .excluded, errors := 255 }] } };
      s.lnk.runState = .halted ∧ s.lnk.nodes ≠ [] ∧ s.news.node = false ∧ (after .runStateReady s).news.node = true) ∧
    blank.lnk.runState = .halted ∧ blank.lnk.nodes = [] ∧
    { blank with lnk := { blank.lnk with nodes := nodes1 } }.lnk.nodes ≠ [] ∧
    (handed (.runState .ready) [2] (linked 600 true .ready)).lnk.runState ≠ .halted := by decide +kernel

/-- For each run state and target what the check looks at, each at the end of a cycle. -/
theorem witness_RunStateOrdersApplyAtTheCycleStart :
    (let s := handed (.runState .run) [3] (rolling (passed (linked 1000 false .ready)));
      Timely s ∧ s.lnk.cycle.map (·.startAt) = some 0 ∧ s.clock = 1000 ∧ s.ord.queue = [] ∧ s.trp.latch = false ∧
        s.stu.active ≠ none) ∧
    (let s := handed (.runState .run) [3] (passed (linked 1000 false .ready));
      Timely s ∧ s.trp.latch = false ∧ s.stu.active = none) ∧
    (let s := handed (.runState .run) [3] (passed (linked 1000 true .ready)); Timely s ∧ s.trp.latch = true) ∧
    (let s := handed (.runState .ready) [2] (rolling (passed (linked 1000 false .run)));
      Timely s ∧ s.lnk.runState = .run) ∧
    (let s := handed (.runState .halt) [1] (passed (linked 1000 false .ready));
      Timely s ∧ s.lnk.runState = .ready ∧ s.trp.latch = false) :=
  ⟨⟨timely_of (by decide +kernel), by decide +kernel⟩, ⟨timely_of (by decide +kernel), by decide +kernel⟩,
    ⟨timely_of (by decide +kernel), by decide +kernel⟩, ⟨timely_of (by decide +kernel), by decide +kernel⟩,
    ⟨timely_of (by decide +kernel), by decide +kernel⟩⟩

/-- A LOAD_SCHEDULE whose copy ends now. -/
def copied (copy : Option (List Word)) (args : List Word) (s : State) : State :=
  { s with ord := ⟨[], some ⟨3, .loadSchedule, args, .copying s.clock copy⟩⟩ }

/-- coilB in the pending slot, reached by the first `k` stands. -/
def pendingB (k : Nat) (s : State) : State :=
  { s with stu := { s.stu with
      pending := some ⟨coilB, false⟩
      stands := Table.build (fun j => { StandRec.reset with use := if j.val < k then .pending else .none }) } }

/-- The last offset a record fits at; a bad offset, a record that fails, a missing GAP, FORCE and SPEED node, a busy pending
slot, and one that stands already use. -/
theorem witness_LoadScheduleCopiesAndRefuses :
    let nodes (ns : List Node) : State := { linked 600 true .ready with lnk := { (linked 600 true .ready).lnk with nodes := ns } }
    let has (s : State) (role : Role) (k : Stand) : Bool := s.lnk.nodes.any (fun n => n.role == role && n.stand == some k)
    ((handed .loadSchedule [0x7D20] blank).ord.taken = some ⟨3, .loadSchedule, [0x7D20], .handed⟩ ∧
      0x7D20 % 4 = 0 ∧ 0x7D20 + 736 ≤ 0x8000 ∧ ¬ (0x7D24 + 736 ≤ 0x8000)) ∧
    Timely (copied none [] blank) ∧ Timely (copied (some [0]) [0, 1] (pendingB 1 (linked 600 true .ready))) ∧
    (scheduleFault [0] none).isSome = true ∧ (scheduleFault (scheduleRecord 9) none = none) ∧
    (((readSchedule (scheduleRecord 9) 0).entries.get 0).isSome = true ∧
      ∀ k, ((readSchedule (scheduleRecord 9) 0).entries.get k).isSome = true → k = 0) ∧
    (has (nodes [node 12 .force (some 0), node 13 .speed (some 0)]) .gap 0 = false) ∧
    (has (nodes [node 11 .gap (some 0), node 13 .speed (some 0)]) .gap 0 = true ∧
      has (nodes [node 11 .gap (some 0), node 13 .speed (some 0)]) .force 0 = false) ∧
    (has (nodes [node 11 .gap (some 0), node 12 .force (some 0)]) .force 0 = true ∧
      has (nodes [node 11 .gap (some 0), node 12 .force (some 0)]) .speed 0 = false) ∧
    (let s := pendingB 0 (linked 600 true .ready);
      has s .gap 0 = true ∧ has s .force 0 = true ∧ has s .speed 0 = true ∧ s.stu.pending ≠ none ∧
      (0 : Word).getLsbD 0 = false) ∧
    (let s := pendingB 1 (linked 600 true .ready); s.switchProgress ≠ 0 ∧ (1 : Word).getLsbD 0 = true) :=
  ⟨by decide +kernel, timely_of (by decide +kernel), timely_of (by decide +kernel), by decide +kernel, by decide +kernel,
    by decide +kernel, by decide +kernel, by decide +kernel, by decide +kernel, by decide +kernel, by decide +kernel⟩

/-- R3, 1.2: each word of the record beyond an edge of its range, the relations between words, and the values at the
edges. -/
theorem witness_ScheduleRecordsAreCheckedAndRead :
    let f (changes : List (Nat × Word)) := scheduleFault (changes.foldl (fun ws c => ws.set c.1 c.2) (scheduleRecord 9)) (some 8)
    (∀ c ∈ ([(1, 0, 0x21), (1, 128, 0x21), (2, 0, 0x22), (2, 8, 0x22), (3, 99, 0x23), (3, 100001, 0x23), (4, 999, 0x24),
        (4, 50000001, 0x24), (5, 9001, 0x25), (6, 499, 0x26), (6, 20001, 0x26), (7, 0, 0x27), (7, 501, 0x27),
        (8, 4096, 0x28), (9, 2001, 0x29), (2, 2, 0x22), (0, 8, 0x20)] : List (Nat × Word × Nat)),
      f [(c.1, c.2.1)] = some (c.2.2, 0)) ∧
    (∀ c ∈ ([(16, 60001, 0x40), (17, 100000, 0x41), (18, 100000, 0x42), (20, 49, 0x44), (20, 2001, 0x44), (21, 5001, 0x45),
        (22, 499, 0x46), (22, 60001, 0x46), (23, 4096, 0x47), (24, 4096, 0x48), (25, 257, 0x49), (26, 0, 0x4A), (26, 501, 0x4A),
        (27, 5001, 0x4B), (28, 2001, 0x4C), (29, 256, 0x4D), (30, 65536, 0x4E), (31, 65536, 0x4F), (32, 65536, 0x50),
        (33, 0, 0x51), (33, 30001, 0x51), (34, 129, 0x52), (35, 4095, 0x53), (35, 4916, 0x53), (36, 0, 0x54), (36, 5001, 0x54),
        (37, 0, 0x55), (37, 256, 0x55), (18, 1000, 0x42), (19, 999, 0x43), (19, 40001, 0x43), (30, 200, 0x4E), (32, 500, 0x50)] :
        List (Nat × Word × Nat)), f [(c.1, c.2.1)] = some (c.2.2, 1)) ∧
    f [] = none ∧ f [(25, 256), (35, 4915), (4, 50000000), (5, 50000000), (29, 255)] = none := by
  decide +kernel

/-- Stand 1 LOADED with nothing pending; a pending schedule replaced; the mill empty. -/
theorem witness_LoadScheduleArmsThePendingSlot :
    let fits (s : State) (words : List Word) : Prop :=
      scheduleFault words (s.stu.active.map (·.sched.coilId)) = none ∧
      s.missingNode (readSchedule words s.stu.nextSerial).entries = none ∧ s.switchProgress = 0
    (let s := copied (some (scheduleRecord 8)) [0] (rolling (linked 600 true .ready));
      Timely s ∧ fits s (scheduleRecord 8) ∧ s.stu.pending = none ∧ (s.stand 0).bite = .loaded) ∧
    (let r := rolling (linked 600 true .ready)
     let s := copied (some (scheduleRecord 8)) [0, 1] { r with stu := { r.stu with pending := some ⟨{ coilB with serial := 1 }, false⟩ } };
      Timely s ∧ fits s (scheduleRecord 8) ∧ s.stu.pending ≠ none ∧ (1 : Word).getLsbD 0 = true ∧ (s.stand 0).bite = .loaded) ∧
    (let s := copied (some (scheduleRecord 8)) [0] (linked 600 true .ready);
      Timely s ∧ fits s (scheduleRecord 8) ∧ s.comp = none ∧ s.trk.segs = [] ∧ s.trk.creation = none ∧
        ∀ k, (s.stand k).bite = .empty) :=
  ⟨⟨timely_of (by decide +kernel), by decide +kernel⟩, ⟨timely_of (by decide +kernel), by decide +kernel⟩,
    ⟨timely_of (by decide +kernel), by decide +kernel⟩⟩

/-- Under coilA, every stand EMPTY, coilB pending; a segment past stand 4 holds stand 5 and the stands above it. -/
def cascade (segs : List Segment) (creation : Option Creation) : State :=
  let s := linked 600 false .run
  { s with
    stu := { s.stu with
      active := some ⟨coilA 5580, false⟩, pending := some ⟨{ coilB with serial := 5 }, false⟩
      stands := Table.build (fun _ => { StandRec.reset with use := .active, trim := 7 }) }
    trk := { Trk.reset 0 with state := .normal, segs := segs, creation := creation } }

/-- Nothing pending; a stand held by its bite, by a segment, by a creation record, and by none; switches up to stand 4; stands
passed over; the coil change completed with MI beyond MI_max, with the old coil's figures carried and not; a switch within the
work of a computation, beside it, and in HALTED. -/
theorem witness_SwitchTestSwitchesTheFreeStands :
    let s := cascade [seg 3 8132] none
    let switches (k : Stand) : Bool := decide (k ≤ 3)
    let all (s : State) : Prop := ∀ k, (s.stand k).use ≠ .pending → s.free k = true
    let b := pendingB 1 { linked 600 false .run with gap := { blank.gap with mi := 101 } }
    (blank.stu.pending = none ∧ s.stu.pending = some ⟨{ coilB with serial := 5 }, false⟩) ∧
    (∀ k, switches k = true ↔ (s.stand k).use ≠ .pending ∧ ∀ i, i ≤ k → (s.stand i).use ≠ .pending → s.free i = true) ∧
    ((∀ k, (s.switchTest.stand k).use = if switches k then .pending else .active) ∧ s.switchTest.stu.switchCharge = 4) ∧
    ((cascade [] (some ⟨7, 0, 3, false, 0, 0, 4, 6000⟩)).free 0 = false ∧ ((rolling blank).stand 0).bite = .loaded) ∧
    ((cascade [] none).schedOf 0 ≠ none ∧ (cascade [] none).entryOf 0 = none ∧ (pendingB 0 blank).schedOf 0 = none ∧
      all (cascade [] none) ∧ all (pendingB 3 blank)) ∧
    (b.stu.active = none ∧ all b ∧ coilB.miMax = 100 ∧ b.switchTest.gap.mi = 100 ∧ b.switchTest.stu.pending = none) ∧
    (let c := cascade [{ seg 3 8132 with coilId := 9 }] none;
      all c ∧ c.stu.active.map (·.sched.serial) = some 0 ∧ ∃ g ∈ c.trk.segs, g.serial = 0) ∧
    (let x := Computation.opened cycle1 600 600 (Table.build s.schedOf);
      x.working = true ∧ { x with working := false }.working = false ∧ s.comp = none ∧ blank.lnk.runState = .halted ∧
      ({ s with comp := some x }.switchTest.comp.map (fun (x : Computation) => (x.switches, x.switched.get 3))) = some (4, true)) :=
  by decide +kernel

theorem witness_CancelPendingDiscardsThePendingSchedule :
    (handed .cancelPending [] blank).stu.pending = none ∧
    (handed .cancelPending [] (pendingB 1 blank)).stu.pending ≠ none ∧ ((pendingB 1 blank).stand 0).use = .pending ∧
    (pendingB 0 blank).stu.pending = some ⟨coilB, false⟩ ∧ ∀ k, ((pendingB 0 blank).stand k).use ≠ .pending := by
  decide +kernel

/-- A SET_MODE or OPERATOR_TRIM that waits, at a T_rd. -/
def waitingAt (kind : OrderKind) (args : List Word) : State :=
  { rolling (linked 600 false .run) with ord := ⟨[], some ⟨3, kind, args, .waiting⟩⟩ }

theorem witness_SetModeChecksAndSets :
    let s := rolling blank
    Timely (waitingAt .setMode [1, 2]) ∧
    (let u := waitingAt .setMode [1, 2];
      u.lnk.runState ≠ .halted ∧ u.lnk.cycle = some cycle1 ∧ u.lnk.timing.map (·.rd) = some u.clock ∧ cycle1.due = false ∧
      cycle1.started = false ∧ u.comp = none ∧ u.lnk.waiting = [] ∧ u.entryOf 0 ≠ none ∧ u.trp.latch = false) ∧
    s.lnk.runState = .halted ∧ (linked 0 true .ready).lnk.runState ≠ .halted ∧ (s.entryOf 0).isSome = true ∧ s.entryOf 6 = none ∧
    s.trp.latch = true ∧ { s with trp := { s.trp with latch := false } }.trp.latch = false :=
  ⟨timely_of (by decide +kernel), by decide +kernel, by decide +kernel⟩

theorem witness_OperatorTrimClampsAndSets :
    let s := rolling blank
    Timely (waitingAt .operatorTrim [1, 501]) ∧
    (let u := waitingAt .operatorTrim [1, 501];
      u.lnk.runState ≠ .halted ∧ u.lnk.cycle = some cycle1 ∧ u.lnk.timing.map (·.rd) = some u.clock ∧ u.comp = none ∧
      u.lnk.waiting = [] ∧ (u.entryOf 0).map (·.trimMax) = some 500) ∧
    s.lnk.runState = .halted ∧ s.entryOf 6 = none ∧ (s.entryOf 0).map (·.trimMax) = some 500 ∧
    (500 : Word).toInt.natAbs ≤ 500 ∧ (500 : Int) < (501 : Word).toInt ∧ (-501 : Word).toInt < -(500 : Int) :=
  ⟨timely_of (by decide +kernel), by decide +kernel, by decide +kernel⟩

theorem witness_NodeRejoinMakesRejoining :
    (nodes1.map (·.address)).Nodup ∧ (∀ n ∈ nodes1, n.address.toNat ≠ 255) ∧
    node 11 .gap (some 0) ∈ nodes1 ∧ (node 11 .gap (some 0)).health ≠ .excluded ∧
    { node 11 .gap (some 0) with health := .excluded }.health = .excluded := by decide

/-- HALTED; each level cause alone; none with the latch clear, and with it set. -/
theorem witness_TripResetClearsTheLatch :
    let p (external commanded silent : Bool) (stand : Option Stand) : State := { linked 600 true .ready with
      trp := { (linked 600 true .ready).trp with
        present := ⟨external, commanded, silent, Table.build (fun k => stand == some k)⟩ } }
    blank.lnk.runState = .halted ∧ (p true false false none).trp.present.external = true ∧
    ((p false true false none).trp.present.commanded = true ∧ (p false true false none).trp.present.external = false) ∧
    ((p false false true none).trp.present.linkSilent = true ∧ (p false false true none).trp.present.commanded = false) ∧
    ((p false false false (some 6)).trp.present.forceLimit.get 6 = true ∧
      ∀ j : Stand, j < 6 → (p false false false (some 6)).trp.present.forceLimit.get j = false) ∧
    ((∀ k, (p false false false none).trp.present.forceLimit.get k = false) ∧ (p false false false none).trp.latch = true) ∧
    ((∀ k, (linked 600 false .ready).trp.present.forceLimit.get k = false) ∧ (linked 600 false .ready).trp.latch = false) := by
  decide +kernel

theorem witness_CounterProgramSetsACounter :
    (handed .counterProgram [7, 4, 0, 0, 0, 0, 2, 0] blank).ord.taken =
      some ⟨3, .counterProgram, [7, 4, 0, 0, 0, 0, 2, 0], .handed⟩ ∧
    7 < (8 : Word).toNat ∧ (7 : Word).toNat = (7 : Fin 8).val ∧ 4 < (5 : Word).toNat ∧ 2 < (3 : Word).toNat ∧
    EventGroup.off.code = (0 : Word).toNat := by decide

/-- In each page a state word, sequence number 1 and one report. -/
def pagesOf (state : Nat → Word) : State :=
  let m : Memory := (List.range 16).foldl (fun m p => m.writeWords (0x10000 + 0x1000 * p) [state p, 1, 1]) []
  { blank with cram := m }

/-- Nothing to close; the next page FREE; only the last page of the search FREE; none FREE. -/
theorem witness_ClosePageFillsAndSearches :
    let closes (s : State) : Prop := s.rpt.current = 0 ∧ s.pageState s.rpt.current = pageFilling ∧
      s.word (pageBase s.rpt.current + 0x08) ≠ 0
    (blank.pageState 0 ≠ pageFilling ∧ { blank with cram := Memory.writeWords [] 0x10000 [1, 1, 0] }.word 0x10008 = 0) ∧
    (let s := pagesOf (fun p => if p = 0 then 1 else 0); closes s ∧ s.pageState 1 = pageFree) ∧
    (let s := pagesOf (fun p => if p = 0 then 1 else if p = 15 then 0 else 2);
      closes s ∧ s.pageState 15 = pageFree ∧ ∀ x : Fin 16, x ≠ 15 → s.pageState x ≠ pageFree) ∧
    (let s := pagesOf (fun p => if p = 0 then 1 else 2); closes s ∧ ∀ q, s.pageState q ≠ pageFree) := by decide +kernel

theorem witness_CycleStartOpensCycle :
    let s := passed (linked 1000 true .ready)
    Settled s ∧ s.lnk.cycle.map (·.startAt) = some 0 ∧ s.lnk.timing.map (·.cyc) = some s.clock ∧ s.lnk.runState ≠ .halted ∧
    s.ord.taken = none := ⟨settled_of (by decide +kernel) (by decide +kernel), by decide +kernel⟩

/-- A GOOD reply of node 11. -/
def good11 : List Byte := withCrc [0x52, 11, 3, 0x8A, 0x0C, 0, 0, 0, 0]

/-- Cycle 1 with node 11 alone awaited. -/
def awaiting11 (s : State) : State :=
  { s with lnk := { s.lnk with cycle := some { cycle1 with awaited := [11] } } }

/-- A computation of cycle 1 in progress up to a moment. -/
def computing (endAt : Nat) (s : State) : State :=
  { s with comp := some { Computation.opened cycle1 600 600 (Table.build s.schedOf) with endAt := endAt, working := false } }

/-- Others awaited; node 11 the last awaited, with a computation in progress and without; an arrival in the µs of a cycle
start. -/
theorem witness_GoodReplyIsChargedAndLogged :
    let s := linked 100 true .ready
    let a := awaiting11 s
    let b := computing 200 a
    let u (s : State) : State := (s.elapse 0).intoCycle
    ((u s).resetting = none ∧ FlushLaw (u s) ∧ (u s).lnk.cycle = some cycle1 ∧ cycle1.started = false ∧
      (u s).nodeAt (good11.getD 1 0) = some (node 11 .gap (some 0)) ∧ crcOk good11 = true ∧
      good11.getD 0 0 = 0x52 ∧ good11.length = Role.gap.replyLength ∧ cycle1.charges = [] ∧ 90 ∈ cycle1.awaited) ∧
    (FlushLaw (u a) ∧ (u a).comp = none ∧ (u a).lnk.waiting = [] ∧ (u a).lnk.cycle.map (·.awaited) = some [11]) ∧
    (FlushLaw (u b) ∧ (u b).comp ≠ none) ∧
    (let e := u (passed (linked 1000 true .ready));
      FlushLaw e ∧ e.clock = 1000 ∧ e.lnk.cycle.map (fun (c : Cycle) => (c.startAt, c.started)) = some (1000, false)) := by
  unfold FlushLaw; decide +kernel

/-- A frame of each verdict, with the arm word not ARMED and ARMED; no cycle; and a node missing at T_rd. -/
theorem witness_BadVerdictsAreChargedLoggedAndCaptured :
    let s := linked 100 true .ready
    let started : State := { s with lnk := { s.lnk with cycle := some { cycle1 with due := true, started := true } } }
    let replied : State := { s with lnk := { s.lnk with cycle := some { cycle1 with charges := [⟨11, .good, 90, none⟩] } } }
    let armed (s : State) : State := { s with cram := Memory.writeWord [] 0x00100 1 }
    let missing : State := armed { linked 600 true .ready with lnk := { (linked 600 true .ready).lnk with
      cycle := some { cycle1 with charges := [⟨11, .crc, 90, none⟩] } } }
    let u (s : State) : State := (s.elapse 0).intoCycle
    ((u s).resetting = none ∧ (u s).lnk.cycle = some cycle1 ∧
      (u s).armWord ≠ armArmed ∧ (u s).nodeAt 11 = some (node 11 .gap (some 0)) ∧ (u s).nodeAt 99 = none) ∧
    ([(0x52 : Byte), 11].length < 3 ∧ 3 ≤ [(0x52 : Byte), 11, 0].length ∧ crcOk [0x52, 11, 0] = false ∧
      crcOk [0x52, 99, 0] = false ∧ crcOk (withCrc [0x52]) = true ∧ (withCrc [0x52]).length = 3) ∧
    (crcOk (withCrc [0x52, 11, 0]) = true ∧ (withCrc [0x52, 11, 0]).length ≠ Role.gap.replyLength ∧
      crcOk (withCrc [0x53, 11, 3, 0, 0, 0, 0, 0, 0]) = true ∧ (0x53 : Byte) ≠ 0x52) ∧
    ((u started).lnk.cycle.map (·.started) = some true) ∧
    ((u replied).lnk.cycle.map (·.charges) = some [⟨11, .good, 90, none⟩]) ∧
    ((u (armed s)).armWord = armArmed) ∧ (u blank).lnk.cycle = none ∧
    (let t := after (.reply 0 [0x52, 11, 0]) (counting .link (linked 100 false .ready));
      t.trp.firstOut.map (·.cause) = some (.counter 0) ∧ t.trk.state = .lost ∧ (t.evc.counters.get 0).value = 0) ∧
    Settled missing ∧ missing.lnk.nodes = [node 11 .gap (some 0)] ++ node 12 .force (some 0) :: nodes1.drop 2 ∧
    missing.armWord = armArmed ∧ missing.lnk.timing.map (·.rd) = some missing.clock ∧ missing.comp = none := by
  refine ⟨by decide +kernel, by decide +kernel, by decide +kernel, by decide +kernel, by decide +kernel, by decide +kernel,
    by decide +kernel, by decide +kernel, settled_of (by decide +kernel) (by decide +kernel), by decide +kernel⟩

/-- A computation in progress and none; a counter of LINK that the first MISSING fills; a node that becomes EXCLUDED. -/
theorem witness_ReplyDeadlineStartsComputation :
    let s := linked 600 true .ready
    let b := computing 700 s
    Settled s ∧ Settled b ∧ s.lnk.cycle = some cycle1 ∧ s.lnk.timing.map (·.rd) = some s.clock ∧ cycle1.due = false ∧
    cycle1.started = false ∧ s.comp = none ∧ s.lnk.waiting = [] ∧ b.comp ≠ none ∧
    (let t := after .replyDeadline (counting .link (linked 600 false .ready));
      t.trp.firstOut.map (·.cause) = some (.counter 0) ∧ (t.evc.counters.get 0).value = 3 ∧ t.news.node = false) ∧
    (let e : State := { s with lnk := { s.lnk with nodes :=
        { node 11 .gap (some 0) with health := .degraded, errors := 248 } :: nodes1.drop 1 } };
      ((after .replyDeadline (counting .link e)).evc.counters.get 0).value = 4 ∧ (after .replyDeadline e).news.node = true) :=
  ⟨settled_of (by decide +kernel) (by decide +kernel), settled_of (by decide +kernel) (by decide +kernel), by decide +kernel⟩

/-- T_rd of cycle 1 with every node of stand 1 heard: S 3,210 µm and a force, under a schedule like coilB with its N_lock. -/
def heard (force nLock : Nat) (bite : Bite) (debounce : Nat) : State :=
  let s := rolling (linked 600 false .run)
  let good (a : Byte) (v : Nat) : Charge := ⟨a, .good, 90, some
    { nodeReady := true, valueValid := true, localFault := false, stripPresent := false, value := v, echo := 0 }⟩
  let coil := { coilB with serial := 0, entries := coilB.entries.map (fun e => e.map (fun e => { e with nLock := nLock })) }
  { s with
    lnk := { s.lnk with cycle := some { cycle1 with charges := [good 11 3210, good 12 force, good 13 4000] } }
    stu := { s.stu with active := some ⟨coil, false⟩, stands := Table.build (fun k => { StandRec.reset with
      use := .active, bite := if k = 0 then bite else .empty, debounce := if k = 0 then debounce else 0, requested := .gauge }) } }

/-- The same with a coil pending. -/
def changing (s : State) : State :=
  { s with stu := { s.stu with pending := some ⟨{ coilB with serial := 5, coilId := 44 }, false⟩ } }

/-- A LOADED stand that locks on for the first time and for the last; a tail-off; and stands that switch. -/
theorem witness_ComputeStartSettlesTheStands :
    let a := heard 14820 1 .loaded 0
    let b := heard 14820 2 .loaded 0
    let c := heard 100 1 .loaded 1
    let d := changing (heard 100 1 .loaded 1)
    Settled a ∧ Settled b ∧ Settled c ∧ Settled d ∧
    a.lnk.cycle.map (fun (c : Cycle) => (c.startAt, c.due, c.started)) = some (0, false, false) ∧
    a.lnk.timing.map (·.rd) = some a.clock ∧ a.comp = none ∧ a.lnk.waiting = [] ∧ a.ord.taken = none ∧
    ((after .replyDeadline a).stand 0).lockCount = 1 ∧ ((after .replyDeadline b).stand 0).lockCount = 1 ∧
    ((after .replyDeadline a).gapStand 0).hLock.isSome = true ∧ ((after .replyDeadline b).gapStand 0).hLock = none ∧
    ((after .replyDeadline c).stand 0).bite = .empty ∧
    (after .replyDeadline c).comp.map (·.switched.get 0) = some false ∧
    (after .replyDeadline d).comp.map (·.switched.get 0) = some true ∧
    (after .replyDeadline d).comp.map (·.switched.get 6) = some true :=
  ⟨settled_of (by decide +kernel) (by decide +kernel), settled_of (by decide +kernel) (by decide +kernel),
    settled_of (by decide +kernel) (by decide +kernel), settled_of (by decide +kernel) (by decide +kernel),
    by decide +kernel⟩

/-- The third silent cycle; a force at and above F_max; the N_dev-th deviation; a GAP node that becomes EXCLUDED at a LOADED
stand, and an EXCLUDED one at a head-on. -/
theorem witness_ComputeStartDetectsItsCauses :
    let silent : State := { linked 600 false .ready with lnk := { (linked 600 false .ready).lnk with silence := 2 } }
    let excess (f : Nat) : State := heard f 0 .loaded 0
    let off : State := { heard 14820 0 .loaded 0 with gap := { blank.gap with stands := Table.build (fun _ =>
      { GapRec.reset with rPrev := some 3000, devCount := 2 }) } }
    let lost (health : Health) (errors : Nat) (charges : List Charge) (bite : Bite) (debounce : Nat) : State :=
      let s := heard 14820 0 bite debounce
      { s with lnk := { s.lnk with nodes := { node 11 .gap (some 0) with health := health, errors := errors } :: nodes1.drop 1
                                   cycle := s.lnk.cycle.map (fun (c : Cycle) => { c with charges := charges ++ c.charges.drop 1 }) } }
    Settled silent ∧ Settled (excess 20000) ∧ Settled off ∧ Settled (lost .degraded 248 [] .loaded 0) ∧
    (after .replyDeadline silent).trp.present.linkSilent = true ∧
    (after .replyDeadline (excess 20000)).trp.present.forceLimit.get 0 = false ∧
    (after .replyDeadline (excess 20001)).trp.present.forceLimit.get 0 = true ∧
    ((after .replyDeadline off).gapStand 0).devCount = 3 ∧
    (after .replyDeadline off).trp.firstOut.map (·.cause) = some (.gapDeviation 0) ∧
    (after .replyDeadline (lost .degraded 248 [] .loaded 0)).trp.firstOut.map (·.cause) = some (.nodeLost 11 0) ∧
    (after .replyDeadline (lost .excluded 255 [] .empty 1)).trp.firstOut.map (·.cause) = some (.nodeLost 11 0) :=
  ⟨settled_of (by decide +kernel) (by decide +kernel), settled_of (by decide +kernel) (by decide +kernel),
    settled_of (by decide +kernel) (by decide +kernel), settled_of (by decide +kernel) (by decide +kernel),
    by decide +kernel⟩

/-- With nothing to count; with a counter of GAP that a RANGE of stand 3 fills, which latches and flushes; with the flush owed of
a trip latched within the computation, in NORMAL, in LOST, and beside a TRIP_RESET; with an ended cycle that waits for its
compute start, and with the cycle in progress waiting. -/
theorem witness_ComputeEndCommitsOrDiscards :
    let s := computing 616 (passed (linked 616 false .run))
    let ranged := counting .gap { s with comp := s.comp.map (fun (x : Computation) =>
      { x with formed := x.formed.set 2 { Formed.blank with range := true, inService := true, zone := some .body } }) }
    let owing (latch : Bool) (state : TrackState) : State :=
      let s := computing 616 (passed (linked 616 latch .ready))
      { s with trk := { s.trk with state := state, segs := if state = .lost then [] else [seg 3 8132], tripFlush := true } }
    let behind : State := { s with lnk := { s.lnk with waiting := [{ cycle1 with number := 0, due := true }] } }
    let next : State := { s with lnk := { s.lnk with cycle := some { cycle1 with due := true } } }
    (Settled s ∧ Settled ranged ∧ Settled (owing true .normal) ∧ Settled (owing true .lost) ∧ Settled (owing false .normal) ∧
      Settled behind ∧ Settled next) ∧
    s.comp.map (·.endAt) = some s.clock ∧ s.trk.tripFlush = false ∧ s.lnk.waiting = [] ∧
    (∀ c, s.lnk.cycle = some c → c.due = true → c.started = true) ∧
    (let t := after .computeEnd ranged;
      ranged.trp.latch = false ∧ ranged.trk.state ≠ .lost ∧ t.trp.firstOut.map (·.cause) = some (.counter 0) ∧ t.trk.state = .lost ∧
      (t.evc.counters.get 0).value = 0) ∧
    (let t := after .computeEnd (owing true .normal);
      t.trk.state = .lost ∧ t.trk.tripFlush = false ∧ t.rpt.reported + t.rpt.lost = 1 ∧
      t.gap.last.map (·.kind) = some .flush) ∧
    (after .computeEnd (owing true .lost)).trk.tripFlush = false ∧
    (after .computeEnd (counting .segment (owing false .normal))).trp.latch = true ∧
    (let t := after .computeEnd behind; t.comp.map (fun y => (y.number, y.late)) = some (0, false) ∧ t.lnk.waiting = []) ∧
    (let t := after .computeEnd next; t.comp.map (·.number) = some 1 ∧ t.lnk.cycle.map (·.started) = some true) :=
  ⟨⟨settled_of (by decide +kernel) (by decide +kernel), settled_of (by decide +kernel) (by decide +kernel),
      settled_of (by decide +kernel) (by decide +kernel), settled_of (by decide +kernel) (by decide +kernel),
      settled_of (by decide +kernel) (by decide +kernel), settled_of (by decide +kernel) (by decide +kernel),
      settled_of (by decide +kernel) (by decide +kernel)⟩,
    by decide +kernel, by decide +kernel, by decide +kernel, by rintro c ⟨rfl⟩ _; rfl, by decide +kernel⟩

/-- Cycle 1 at its T_cmd, its computation over; stand 1 in service, the others dummied. -/
def atOffset (latch : Bool) (state : RunState) (committed : Option Ref) : State :=
  let s := rolling (linked 700 latch state)
  let s := { s with gap := { s.gap with stands := Table.build (fun _ => { GapRec.reset with committed := committed }) } }
  { s with lnk := { s.lnk with cycle := some { cycle1 with due := true, started := true, ended := true } } }

/-- The same with the computation still in progress, in which stand 1 switched from coilB to a schedule with another
S_open. -/
def lateSwitch : State :=
  let s := computing 800 (atOffset true .ready none)
  let other := { coilB with serial := 5, entries := coilB.entries.map (fun e => e.map (fun e => { e with sOpen := 20000 })) }
  { s with
    stu := { s.stu with pending := some ⟨other, false⟩, stands := Table.build (fun k =>
      { StandRec.reset with use := if k = 0 then .pending else .active }) }
    comp := s.comp.map (fun (x : Computation) => { x with switched := x.switched.set 0 true }) }

/-- R32: the SET frame of a late cycle has the S_open of the entry from before the switch, 30,000 µm. -/
theorem test_late_switch : (after .commandOffset lateSwitch).linkOut = [withCrc [0x53, 1, 0, 3, 1, 11, 0x30, 0x75, 0, 0]] ∧
    (lateSwitch.entryOf 0).map (·.sOpen) = some 20000 := by decide +kernel

theorem witness_CommandOffsetSendsTheSetFrame :
    Settled (atOffset false .run (some (.um 1000))) ∧ Settled lateSwitch ∧
    (let s := atOffset false .run (some (.um 1000));
      s.lnk.timing.map (·.cmd) = some s.clock ∧ s.comp = none ∧
      (∀ n ∈ s.lnk.nodes, n.role = .gap → n.stand.isSome = true) ∧ (blank.schedOf 0) = none ∧
      (s.schedOf 6 ≠ none ∧ s.entryOf 6 = none) ∧ (s.entryOf 0).isSome = true ∧
      (s.gapStand 0).committed = some (.um 1000) ∧ (s.entryOf 0).map (·.sMin) = some 1000 ∧
      (s.entryOf 0).map (·.sMax) = some 40000) ∧
    (atOffset true .ready none).trp.latch = true ∧ (atOffset false .ready none).lnk.runState ≠ .run ∧
    ((atOffset false .run none).gapStand 0).committed = none ∧
    ((atOffset false .run (some .openFull)).gapStand 0).committed = some .openFull ∧
    (let e := computing 700 (atOffset false .run none);
      Settled e ∧ e.comp.map (fun (x : Computation) => (x.cycleAt, x.endAt)) = some (0, e.clock) ∧ Settled (after .computeEnd e)) ∧
    lateSwitch.comp.map (fun (x : Computation) => (decide (lateSwitch.clock < x.endAt), x.switched.get 0)) = some (true, true) :=
  ⟨settled_of (by decide +kernel) (by decide +kernel), settled_of (by decide +kernel) (by decide +kernel), by decide +kernel,
    by decide +kernel, by decide +kernel, by decide +kernel, by decide +kernel,
    ⟨settled_of (by decide +kernel) (by decide +kernel), by decide +kernel, settled_of (by decide +kernel) (by decide +kernel)⟩,
    by decide +kernel⟩

theorem witness_TripInIsALevelCause :
    let s := linked 600 false .run
    let low := after (.tripInLow 0) s
    let busy := computing 650 s
    (LevelLaw (s.elapse 0) ∧ FlushLaw (s.elapse 0) ∧ (s.elapse 0).resetting = none ∧ (s.elapse 0).tripIn = true ∧
      (s.elapse 0).trp.latch = false ∧ (s.elapse 0).comp = none ∧ (s.elapse 0).trk.state ≠ .lost) ∧
    (LevelLaw (busy.elapse 0) ∧ FlushLaw (busy.elapse 0) ∧ (busy.elapse 0).comp ≠ none) ∧
    (LevelLaw (blank.elapse 0) ∧ FlushLaw (blank.elapse 0) ∧ (blank.elapse 0).trp.latch = true ∧
      (blank.elapse 0).trp.list = [] ∧ (blank.elapse 0).trp.firstOut.map (·.cause) = some .powerOn) ∧
    (LevelLaw (low.elapse 0) ∧ FlushLaw (low.elapse 0) ∧ (low.elapse 0).tripIn = false) := by
  unfold LevelLaw FlushLaw; decide +kernel

theorem witness_RoundingIsToNearestHalfAway : 0 < 2 ∧ 2 * ((-1 : Int) - roundDiv (-1) 2 * 2) = 2 ∧
    2 * ((1 : Int) - roundDiv 1 2 * 2) = -2 := by decide

/-- A node at each edge of the table of R48, EXCLUDED, and REJOINING with 126 and 127 clean cycles; a GOOD reply with the last
legal gap value, and one with the first illegal one. -/
theorem witness_NodeHealthAndValue :
    let n (h : Health) (errors clean : Nat) := { node 11 .gap (some 0) with health := h, errors := errors, clean := clean }
    let d (v : Nat) : ReplyData :=
      { nodeReady := true, valueValid := true, localFault := false, stripPresent := true, value := v, echo := 0 }
    let m (v : Nat) := (n .active 95 0).atComputeStart 96 9 [⟨11, .good, 90, some (d v)⟩]
    NodeOk 96 (n .active 95 0) ∧ NodeOk 96 (n .warned 127 0) ∧ NodeOk 96 (n .degraded 247 0) ∧ NodeOk 96 (n .degraded 248 0) ∧
    NodeOk 96 (n .excluded 255 0) ∧ NodeOk 96 (n .rejoining 255 126) ∧ NodeOk 96 (n .rejoining 255 127) ∧
    ((m 99999).result, (m 99999).mark, (m 99999).value, (m 99999).errors) = (some true, .fresh, some 99999, 94) ∧
    ((m 100000).result, (m 100000).mark, (m 100000).value) = (some true, .none, none) := by
  refine ⟨?_, ?_, ?_, ?_, ?_, ?_, ?_, by decide +kernel, by decide +kernel⟩ <;> simp [NodeOk, Config.cleanCycles]

/-- Forces at the thresholds; every run state and mode; deviations at and beyond the limit. -/
theorem witness_BiteModeAndDeviationTables :
    let s (force : Nat) (bite : Bite) (debounce : Nat) : State := { blank with
      lnk := { blank.lnk with nodes := [{ node 12 .force (some 0) with value := some force, mark := .fresh }] }
      stu := { blank.stu with stands := Table.build (fun _ => { StandRec.reset with bite := bite, debounce := debounce }) } }
    ((s 500 .empty 1).reading .force (some 0) = (some 500, .fresh) ∧ ((s 500 .empty 1).stand 0).debounce = 1 ∧
      (s 500 .empty 1).entryOf 0 = none) ∧
    ((s 199 .loaded 1).reading .force (some 0) = (some 199, .fresh) ∧ ((s 199 .loaded 1).stand 0).bite = .loaded) ∧
    (blank.reading .force (some 0)).2 ≠ .fresh ∧
    (effectiveMode .run (some 3) .gauge .loaded 2 true, effectiveMode .run (some 3) .gauge .loaded 3 true,
      effectiveMode .run (some 0) .gauge .loaded 0 false) = (.locking, .gauge, .gaugeHeld) ∧
    (entry5.devLim = 100 ∧ ((4100 : Nat) - (4000 : Int)).natAbs ≤ 100 ∧ 100 < ((4101 : Nat) - (4000 : Int)).natAbs) ∧
    (some 4101, Mark.held).2 ≠ Mark.fresh := by decide +kernel

/-- GAUGE, and each other mode and row: stand 5 with and without h_gm, dummied, without a schedule; the segment in the bite
with a thickness and without; switched into service and out of it. -/
theorem witness_GapLawFormsTheReference :
    let x := gaugeInput 5580 entry5 5608 20 (-2000) (-64) (seg 3 8132)
    (x.mode = .gauge ∧ entry5.sMin < entry5.sMax ∧ x.integrator.natAbs ≤ entry5.iMax) ∧
    (x.sched = some (coilA 5580) ∧ x.entry = some entry5 ∧ x.hgm = some 5608 ∧ { x with hgm := none }.hgm = none ∧
      { x with entry := none }.entry = none ∧ { x with sched := none }.sched = none) ∧
    (x.trk.state ≠ .lost ∧ x.trk.segs = [] ++ seg 3 8132 :: [] ∧ (coilA 5580).prevOf 4 = some 3 ∧
      ((coilA 5580).entries.get 3).map (·.hTgt) = some 8100 ∧ (seg 3 8132).coilId = (coilA 5580).coilId ∧
      (seg 3 8132).list.getLast? = some (3, some 8132)) ∧
    ((coilA 5580).prevOf 3 = none ∧ ∀ g ∈ [seg 4 5000], g.list.getLast?.map (·.1) ≠ (coilA 5580).prevOf 4) ∧
    (coilA 5580).entries.get 4 = some entry5 ∧ (coilA 5580).entries.get 0 = none ∧
    (let y (n volume : Nat) : LawInput := { x with trk := { x.trk with creation := some ⟨7, 0, 3, false, 0, 0, n, volume⟩ } };
      (coilA 5580).entryStand = some 3 ∧ (coilA 5580).entryStand ≠ some 4 ∧ (coilA 5580).vTail ≤ (coilA 5580).vBar ∧
      (formBefore x 4).zone = some .body ∧ (formBefore x 3).zone = none ∧ (formBefore (y 3 0) 3).zone = some .head ∧
      (let edge := (coilA 5580).vBar - (coilA 5580).vTail - (coilA 5580).vSeg;
        (formBefore (y 4 edge) 3).zone = some .body ∧ (formBefore (y 4 (edge + 1)) 3).zone = some .tail)) := by
  decide +kernel

/-- A BODY segment with a reading, judged by the figures of its coil. -/
theorem witness_MonitorUpdateOfARemoval :
    let s := { linked 600 false .run with
      stu := { blank.stu with active := some ⟨coilA 5580, false⟩ }
      gap := { blank.gap with mi := 100, figures := [⟨0, 7, 3000, 30, 1024⟩] } }
    let g := { seg 5 3031 with gaugeSum := 3031, gaugeCount := 1 }
    s.figuresFor g.coilId = some ⟨0, 7, 3000, 30, 1024⟩ ∧ s.stu.active = some ⟨coilA 5580, false⟩ ∧ MonitorLaw s ∧
    (g.zone = .body ∧ s.gaugeOut = false ∧ g.gaugeCount ≠ 0 ∧ g.degraded = false ∧ g.trip = false ∧ s.trp.latch = false) ∧
    (assess s.gaugeOut (some ⟨0, 7, 3000, 30, 1024⟩) g).hx = some 3031 := by
  refine ⟨by decide +kernel, rfl, ?_, by decide +kernel, by decide +kernel⟩
  show (100 : Int).natAbs ≤ 100
  decide

/-- An event that passes a full counter of each action, and one that does not pass. -/
theorem witness_CountersCountAndOverflow :
    let c (a : Overflow) (v : Word) : Counter := ⟨.track, 0x04, 4, 0x40, false, a, v, v, false⟩
    let e : Event := ⟨.track, .slip, some .tail, some 6⟩
    (∀ a ∈ [Overflow.none, .notice, .trip], (c a 0xFFFFFFFF).group = e.group ∧ (c a 0xFFFFFFFF).group ≠ .off ∧
      (c a 0xFFFFFFFF).subevents.getLsbD e.sub.bit = true ∧ (c a 0xFFFFFFFF).zones.getLsbD Zone.tail.bit = true ∧
      (c a 0xFFFFFFFF).stands.getLsbD 6 = true) ∧
    (c .none 0xFFFFFFFE).value ≠ 0xFFFFFFFF ∧ (c .none 0).group ≠ EventGroup.link := by decide

theorem witness_EntryCrossingCreatesASegment :
    let r : Creation := ⟨7, 0, 3, false, 3000, 1, 4, 6000⟩
    let s := { blank with trk := { blank.trk with state := .normal, creation := some r } }
    s.trk.creation = some r ∧ s.trk.segs.length < 128 ∧
    ((counting .track s).create 3 (coilA 5580) false).evc.counters.get 0 =
      ⟨.track, 0xFF, 7, 0x7F, false, .trip, 0, 0, true⟩ ∧
    { s.trk with segs := List.replicate 128 (seg 3 8132) }.segs.length = 128 ∧ s.trk.state ≠ .lost ∧
    (4 ≤ r.segCount ∧ (coilA 5580).vTail ≤ (coilA 5580).vBar ∧
      r.volume + (coilA 5580).vSeg + (coilA 5580).vTail ≤ (coilA 5580).vBar) := by decide +kernel

/-- What tracking reads of a stand of coilA, LOADED, with h_gm 8,000 µm and 125 mm of travel: 1,000,000,000 mm·µm a cycle is
V_seg exactly. -/
def snapA (k : Stand) (entryPoint : Bool) (hgm : Option Nat) (change : BiteChange) : StandSnap :=
  { sched := some (coilA 5580), entry := (coilA 5580).entries.get k, gap := (none, .none), force := (none, .none)
    speed := (some 4000, .fresh), change := change, hgm := hgm, exitSpeed := 4000, travel := 125000, entryPoint := entryPoint
    entryHeadOn := false, reuse := false }

/-- Tracking NORMAL with segments and a creation record, every stand LOADED or EMPTY. -/
def tracking (segs : List Segment) (bite : Bite) : State :=
  let s := rolling (linked 600 false .run)
  { s with
    stu := { s.stu with active := some ⟨coilA 5580, false⟩, stands := Table.build (fun _ =>
      { StandRec.reset with use := .active, bite := bite }) }
    trk := { Trk.reset 0 with state := .normal, segs := segs, creation := some ⟨7, 0, 3, false, 0, 0, 4, 6000⟩ } }

/-- Below the threshold and at it; a segment that waits at stand 5, one that does not, and none; the entry point with room and
without. -/
theorem witness_StandPointsCountAndCross :
    let s := tracking [seg 3 8132] .loaded
    let p := snapA 4 false (some 8000) .none
    (p.sched = some (coilA 5580) ∧ p.entry.isSome = true ∧
      s.trk.state = .normal ∧ (s.stand 4).bite = .loaded ∧ ((tracking [] .empty).stand 4).bite = .empty) ∧
    (s.trk.q.get 4 + 8000 * p.travel = (coilA 5580).vSeg * 1000000 ∧
      s.trk.q.get 4 + 7999 * p.travel < (coilA 5580).vSeg * 1000000) ∧
    (s.trk.segs = [] ++ seg 3 8132 :: [] ∧ (seg 3 8132).coilId = (coilA 5580).coilId ∧
      (coilA 5580).prevOf 4 = some 3 ∧ (seg 3 8132).list.getLast?.map (·.1) = some 3) ∧
    ((seg 4 5000).list.getLast?.map (·.1) ≠ some 3 ∧ (tracking [] .loaded).trk.segs = []) ∧
    (let t := State.countStand (Table.build (fun k => snapA k (k == 3) (some 8000) .none)) (counting .track (tracking [] .loaded)) 4;
      t.trk.state = .degraded ∧ t.evc.counters.get 0 = ⟨.track, 0xFF, 7, 0x7F, false, .trip, 0, 0, true⟩) ∧
    ((cascade [] none).trk.creation = none) ∧
    ((snapA 3 true (some 8000) .none).entryPoint = true ∧ s.trk.creation.isSome = true ∧
      (List.replicate 128 (seg 3 8132)).length = 128) := by decide +kernel

/-- The gauge with strip and without; the oldest segment across its whole path and not; a cycle without bite changes. -/
theorem witness_GaugePointCountsAndRemoves :
    let done : Segment := { seg 5 3031 with list := [(3, some 8100), (4, some 5580), (5, some 3800)] }
    let s (strip : Bool) (segs : List Segment) : State :=
      let t := tracking segs .loaded
      { t with lnk := { t.lnk with nodes := [{ node 90 .exitGauge none with value := some 3000, strip := strip, mark := .fresh }] }
               trk := { t.trk with gaugeSpeed := 4000 } }
    let sn : Table 7 StandSnap := Table.build (fun k => snapA k (k == 3) (some 8000) .none)
    ((s true []).nodeFor .exitGauge none).map (fun n => (n.value, n.strip)) = some (some 3000, true) ∧
    ((s false []).nodeFor .exitGauge none).map (·.strip) = some false ∧ blank.nodeFor .exitGauge none = none ∧
    (let full := counting .track { s true [] with trk := { (s true []).trk with qGauge := 1000000000 } };
      ((full.countGauge sn).evc.counters.get 0).flag = true ∧ (full.countGauge sn).trk.state = .degraded) ∧
    (sn.get 6).sched = some (coilA 5580) ∧
    (coilA 5580).lastStand = some 5 ∧ (sn.get 5).speed.2 = .fresh ∧
    (s true [done]).trk.segs = done :: [] ∧ done.list.length = done.pathLen ∧ (seg 5 3031).list.length ≠ (seg 5 3031).pathLen ∧
    (∀ k, (sn.get k).change = .none ∧ (sn.get k).entryHeadOn = false) ∧ (s true []).trk.speedLost = false ∧
    (∀ k, (sn.get k).entry.isSome = true → (s true []).excluded .speed (some k) = false) ∧
    (let bites : Table 7 StandSnap := Table.build (fun k => snapA k false none (if k = 4 then .tailOff else if k = 5 then .headOn else .none));
      let w := s true [done];
      let open4 : State := { w with trk := { w.trk with windows := w.trk.windows.set 4 (some ⟨5, 5000, 64, 0⟩) } };
      let t := open4.track bites true;
      t.trk.segs = [] ∧ t.trk.windows.get 4 = none ∧ t.gap.last.map (·.kind) = some .stripEnd ∧
      (open4.loseHead 4).trp.firstOut.map (·.cause) = some (.headLost 4) ∧
      (open4.trackTailOff (bites.get 4) 4).trk.windows.get 4 = none) := by
  decide +kernel

/-- The last segment of its coil and one before the last; its schedule in a slot and in none; nothing pending, and a pending
schedule that the removal lets take the mill. -/
theorem witness_RemovalGoesToEveryBlock :
    let s := tracking [seg 5 3031, seg 3 8132] .loaded
    let u := { tracking [seg 5 3031] .loaded with trk := { Trk.reset 0 with state := .normal, segs := [seg 5 3031] } }
    s.trk.segs = seg 5 3031 :: [seg 3 8132] ∧ ¬ (∀ x ∈ [seg 3 8132], x.coilId ≠ (seg 5 3031).coilId) ∧
    u.trk.segs = seg 5 3031 :: [] ∧ u.trk.creation = none ∧
    (let t := (counting .segment (cascade [seg 5 3031] none)).removeOldest .gauge false 600;
      t.stu.pending = none ∧ t.stu.active.map (·.sched.serial) = some 5 ∧ t.trk.state = .idle ∧ t.trp.latch = true) ∧
    s.stu.pending = none ∧ s.stu.active.map (·.sched.serial) = some (seg 5 3031).serial ∧
    blank.stu.active = none ∧ { seg 5 3031 with trip := true }.trip = true := by decide +kernel

/-- A tail-off at stand 5 and at the entry, with and without thickness counted, with room and without; LOST with speed-lost
presented; segments across their whole path; an EXCLUDED speed node. -/
theorem witness_BarsBeginAndEnd :
    let s := tracking [seg 3 8132, seg 3 8100] .loaded
    let lostSpeed : State := { s with lnk := { s.lnk with nodes := [{ node 13 .speed (some 4) with health := .excluded }] } }
    ((snapA 4 false none .tailOff).sched = some (coilA 5580) ∧ (snapA 4 false none .tailOff).entry.isSome = true ∧
      s.trk.windows.get 4 = none ∧
      ((counting .track s).trackTailOff (snapA 4 false none .tailOff) 4).evc.counters.get 0 =
        ⟨.track, 0xFF, 7, 0x7F, false, .trip, 0, 0, true⟩) ∧
    (s.trk.creation.map (·.count) = some 0 ∧ (⟨7, 0, 3, false, 8000, 1, 4, 6000⟩ : Creation).count = 1 ∧
      s.trk.segs.length < 128 ∧ s.trk.state ≠ .lost) ∧
    ((Trk.reset 0).state ≠ .lost ∧ { Trk.reset 0 with state := .lost, speedLost := true }.speedLost = true) ∧
    ((snapA 4 false none .none).entry.isSome = true ∧ lostSpeed.excluded .speed (some 4) = true ∧
      s.excluded .speed (some 4) = false ∧ s.trk.speedLost = false) := by decide +kernel

/-- A window of stand 4 towards stand 5 at each edge: span 5,000 mm, win 64 of 256. -/
theorem witness_HeadWindowsOpenAndClose :
    let s (travel : Nat) : State :=
      let t := tracking [] .empty
      { t with trk := { t.trk with windows := t.trk.windows.set 3 (some ⟨4, 5000, 64, travel⟩) } }
    ((coilA 5580).nextOf 5 = none ∧ (coilA 5580).nextOf 3 = some 4 ∧ (tracking [] .empty).trp.armed = false ∧
      ∀ n, ((s 0).evc.counters.get n).group ≠ .track) ∧
    ((s 0).trk.windows.get 3 = some ⟨4, 5000, 64, 0⟩ ∧ ((s 0).trk.windows.get 4) = none ∧
      ∀ i : Stand, i ≠ 3 → ((s 0).trk.windows.get i).any (fun x => x.target == 4) = false) ∧
    (3749999 * 256 < 5000 * 1000 * (256 - 64) ∧ 5000 * 1000 * (256 - 64) ≤ 3750000 * 256) ∧
    (((s 0).stand 4).bite = .empty ∧ 5000 * 1000 * (256 + 64) < 6250001 * 256 ∧ 6250000 * 256 ≤ 5000 * 1000 * (256 + 64)) ∧
    ((tracking [] .loaded).stand 4).bite = .loaded := by decide +kernel

/-- An entry head-on; a head-on of stand 5, expected and not, with stand 4 LOADED and EMPTY; a tail-off with a feed recorded
and without. -/
theorem witness_SequenceChecksFollowTheBites :
    let sn (change : BiteChange) (entryHeadOn : Bool) : StandSnap := { snapA 4 false none change with entryHeadOn := entryHeadOn }
    let s (bite : Bite) (feed : Option Stand) : State :=
      let t := tracking [] bite
      { t with trp := { t.trp with armed := true, feed := (Table.fill 7 none).set 4 feed } }
    let windows : Table 7 (Option Window) := (Table.fill 7 none).set 3 (some ⟨4, 5000, 64, 0⟩)
    ((sn .headOn true).entryHeadOn = true ∧ (sn .headOn false).entryHeadOn = false ∧ (sn .headOn false).sched = some (coilA 5580) ∧
      (sn .headOn false).entry.isSome = true) ∧
    ((s .loaded none).trp.armed = true ∧ (s .loaded none).trp.latch = false ∧ (tracking [] .loaded).trp.armed = false) ∧
    (windows.get 3 = some ⟨4, 5000, 64, 0⟩ ∧ ∀ k, (Table.fill 7 (none : Option Window)).get k = none) ∧
    ((coilA 5580).prevOf 4 = some 3 ∧ ((s .loaded none).stand 3).bite = .loaded ∧ ((s .empty none).stand 3).bite = .empty) ∧
    (s .loaded (some 3)).trp.feed.get 4 ≠ none ∧ (s .loaded none).trp.feed.get 4 = none := by decide +kernel

/-- The page's 62nd and 63rd report; a coil's last report with only page 15 FREE and with none; no page FILLING and the current one, or only the one after it, FREE; none FREE. -/
theorem witness_ReportsFillThePage :
    let s (n : Word) : State := { blank with cram := Memory.writeWords [] 0x10000 [1, 1, n] }
    ((s 61).pageState (s 61).rpt.current = pageFilling ∧ ((s 61).word (pageBase (s 61).rpt.current + 0x08)).toNat = 61) ∧
    ((s 62).pageState (s 62).rpt.current = pageFilling ∧ ((s 62).word (pageBase (s 62).rpt.current + 0x08)).toNat = 62) ∧
    (let f := pagesOf (fun p => if p = 0 then 1 else if p = 15 then 0 else 2);
      let t := f.report (seg 5 3031) ⟨none, none, .noReading⟩ true 9;
      f.pageState 0 = pageFilling ∧ f.pageState 15 = pageFree ∧ (∀ x : Fin 16, x ≠ 15 → f.pageState x ≠ pageFree) ∧
      t.rpt.current = 15 ∧ t.pageState 0 = pageFull ∧ t.pageState 15 = pageFilling) ∧
    (let f := pagesOf (fun p => if p = 0 then 1 else 2);
      f.pageState 0 = pageFilling ∧ (∀ q, f.pageState q ≠ pageFree) ∧
      (f.report (seg 5 3031) ⟨none, none, .noReading⟩ true 9).rpt.current = 0) ∧
    (let f := pagesOf (fun p => if p = 0 then 0 else 2);
      f.rpt.current = 0 ∧ f.pageState 0 = pageFree ∧ ∀ x : Fin 16, x ≠ 0 → f.pageState x ≠ pageFree) ∧
    (let f := pagesOf (fun p => if p = 1 then 0 else 2); f.pageState 0 ≠ pageFilling ∧ f.pageState 1 = pageFree) ∧
    (let f := pagesOf (fun _ => 2); f.pageState f.rpt.current ≠ pageFilling ∧ ∀ q, f.pageState q ≠ pageFree) := by
  decide +kernel

/-- The laws together, and a step, at a state with the link running and a computation in progress. -/
theorem witness_StepsKeepTheLaws :
    let s := { blank with pending := [.tripInLow 3] }
    (∃ t, step s = .next t) ∧ MemoryLaw s ∧ (LatchLaw s ∧ IrqLaw s) ∧ (RunLaw s ∧ LevelLaw s) ∧
    (TableLaw s ∧ ConservationLaw s ∧ TrackingLaw s ∧ FlushLaw s) ∧ MonitorLaw s ∧ NodeLaw s ∧ OrderLaw s := by
  refine ⟨⟨_, rfl⟩, ?_⟩
  unfold MemoryLaw LatchLaw IrqLaw RunLaw LevelLaw TableLaw ConservationLaw TrackingLaw FlushLaw NodeLaw OrderLaw
  refine ⟨by decide +kernel, by decide +kernel, by decide +kernel, by decide +kernel, rfl, ?_, ?_⟩
  · exact ⟨by decide, by intro n h; cases h⟩
  · decide +kernel

theorem witness_StepsKeepStampLaw : (∃ t, step State.reset = .next t) ∧ StampLaw State.reset := by
  refine ⟨⟨_, rfl⟩, ?_⟩
  unfold StampLaw
  decide +kernel

end Sys2Proof.Tests
end

/-! # TRIP_RESET (R136, R137) -/

namespace Sys2Proof.Machine

/-! ## Words read back where a list of words was written -/

/-- Memory that holds the bytes of a list of words from an address on reads as that list. -/
theorem Memory.readWords_of_read {m : Memory} {a : Nat} {ws : List Word}
    (h : ∀ j < 4 * ws.length, m.read (a + j) = (ws.flatMap wordBytes).getD j 0) :
    m.readWords a ws.length = ws := by
  induction ws generalizing a with
  | nil => rfl
  | cons w ws ih =>
    simp only [List.length_cons, List.flatMap_cons] at h
    have head : m.readWord a = w := by
      have h0 := h 0 (by omega)
      have h1 := h 1 (by omega)
      have h2 := h 2 (by omega)
      have h3 := h 3 (by omega)
      simp only [wordBytes, List.cons_append, List.getD_cons_zero, List.getD_cons_succ, Nat.add_zero] at h0 h1 h2 h3
      rw [Memory.readWord, h0, h1, h2, h3, bytesWord_wordBytes]
    have tail : m.readWords (a + 4) ws.length = ws := ih fun j hj => by
      have hj4 := h (j + 4) (by omega)
      rwa [List.getD_append_right _ _ _ _ (by simp), wordBytes_length, Nat.add_sub_cancel,
        show a + (j + 4) = a + 4 + j by omega] at hj4
    rw [List.length_cons, Memory.readWords, head, tail]

/-- A list of words read back where it was written. -/
theorem Memory.readWords_writeWords (m : Memory) (a : Nat) (ws : List Word) :
    (m.writeWords a ws).readWords a ws.length = ws :=
  Memory.readWords_of_read fun j hj => by
    rw [Memory.writeWords, Memory.read_write, words_length, if_pos (by omega), Nat.add_sub_cancel_left]

/-! ## The length of the trip record (11.5) -/

@[simp] theorem padWords_length (n : Nat) (ws : List Word) : (padWords n ws).length = n := by
  simp [padWords]

@[simp] theorem wordsOfBytes_length (bs : List Nat) : (wordsOfBytes bs).length = (bs.length + 3) / 4 := by
  induction bs using wordsOfBytes.induct with
  | case1 => rfl
  | case2 a => simp [wordsOfBytes]
  | case3 a b => simp [wordsOfBytes]
  | case4 a b c => simp [wordsOfBytes]
  | case5 a b c d rest ih => simp only [wordsOfBytes, List.length_cons, ih]; omega

@[simp] theorem firstOutWords_length (f : Option FirstOut) : (firstOutWords f).length = 10 := by
  rcases f with _ | ⟨_, _, _, _, _ | _⟩ <;> rfl

@[simp] theorem tripWords_length (m : Word) (t : Trp) : (tripWords m t).length = 65 := by
  simp [tripWords, t.feed.len]

/-! ## A change of TRP's content (R135) -/

theorem State.setTrp_of_ne {s : State} {t : Trp} (h : t ≠ s.trp) :
    s.setTrp t = { s with
      trp := t
      tripNumber := s.tripNumber + 1
      cram := s.cram.writeWords 0x00400 (tripWords (s.tripNumber + 1) t) } := by
  rw [State.setTrp, if_neg h]

theorem State.readWords_writeTripWords (s : State) (m : Word) (t : Trp) :
    (s.cram.writeWords 0x00400 (tripWords m t)).readWords 0x00400 65 = tripWords m t := by
  simpa using Memory.readWords_writeWords s.cram 0x00400 (tripWords m t)

/-- The trip record of 65 words ends before 0x504. -/
theorem State.read_writeTripWords_outside (s : State) (m : Word) (t : Trp) {a : Nat}
    (h : a < 0x00400 ∨ 0x00504 ≤ a) :
    (s.cram.writeWords 0x00400 (tripWords m t)).read a = s.cram.read a :=
  Memory.read_write_outside _ _ _ _ (by rw [words_length, tripWords_length]; exact h)

/-! ## The present level causes in the order of R136 -/

theorem allStands_eq_finRange : allStands = List.finRange 7 := by decide

/-- The search through the stands in increasing order finds the lowest one that passes. -/
theorem allStands_find?_eq_some {p : Stand → Bool} {k : Stand} (hk : p k = true)
    (hlt : ∀ j, j < k → p j = false) : allStands.find? p = some k := by
  rw [allStands_eq_finRange, List.find?_eq_some_iff_getElem]
  refine ⟨hk, k.val, by simp, by simp, fun j hj => ?_⟩
  have below : p (⟨j, by omega⟩ : Stand) = false := hlt _ hj
  simp [below]

theorem allStands_find?_eq_none {p : Stand → Bool} (h : ∀ k, p k = false) : allStands.find? p = none :=
  List.find?_eq_none.2 fun k _ => by simp [h k]

section
variable {p : Present}

theorem Present.firstCause_external (he : p.external = true) : p.firstCause = some .external := by
  simp [Present.firstCause, he]

theorem Present.firstCause_commanded (he : p.external = false) (hc : p.commanded = true) :
    p.firstCause = some .commanded := by
  simp [Present.firstCause, he, hc]

theorem Present.firstCause_linkSilent (he : p.external = false) (hc : p.commanded = false)
    (hl : p.linkSilent = true) : p.firstCause = some .linkSilent := by
  simp [Present.firstCause, he, hc, hl]

theorem Present.firstCause_forceLimit {k : Stand} (he : p.external = false) (hc : p.commanded = false)
    (hl : p.linkSilent = false) (hk : p.forceLimit.get k = true)
    (hlt : ∀ j, j < k → p.forceLimit.get j = false) : p.firstCause = some (.forceLimit k) := by
  simp [Present.firstCause, he, hc, hl, allStands_find?_eq_some hk hlt]

theorem Present.firstCause_none (he : p.external = false) (hc : p.commanded = false)
    (hl : p.linkSilent = false) (hf : ∀ k, p.forceLimit.get k = false) : p.firstCause = none := by
  simp [Present.firstCause, he, hc, hl, allStands_find?_eq_none hf]

end

/-! ## What TRIP_RESET answers -/

/-- R136: a handed TRIP_RESET completes with TRP's answer. -/
theorem exec_tripReset {s u : State} {t : Taken} {o : OrderOutcome} {rs : List Word}
    (ht : s.ord.taken = some t) (hp : t.phase = .handed) (hk : t.kind = .tripReset)
    (ha : answerTripReset s t = (u, o, rs)) : exec .tripReset s = .next (u.complete o rs) := by
  have h := State.answerOrder_of answerTripReset ht hp
  rw [hk, ha] at h
  exact congrArg Host.Outcome.next h

section
variable {s : State} (t : Taken)

theorem answerTripReset_halted (hr : s.lnk.runState = .halted) :
    answerTripReset s t = (s, .wrongState, []) := by
  simp [answerTripReset, hr]

theorem answerTripReset_present {c : Cause} (hr : s.lnk.runState ≠ .halted)
    (hc : s.trp.present.firstCause = some c) :
    answerTripReset s t = (s, .causePresent, [natWord c.code, natWord c.location]) := by
  simp [answerTripReset, hr, hc]

theorem answerTripReset_unlatched (hr : s.lnk.runState ≠ .halted) (hc : s.trp.present.firstCause = none)
    (hl : s.trp.latch = false) : answerTripReset s t = (s, .nothingToDo, []) := by
  simp [answerTripReset, hr, hc, hl]

theorem answerTripReset_latched (hr : s.lnk.runState ≠ .halted) (hc : s.trp.present.firstCause = none)
    (hl : s.trp.latch = true) : answerTripReset s t = (s.tripCleared, .ok, []) := by
  simp [answerTripReset, hr, hc, hl]

end

/-! ## What an accepted TRIP_RESET clears (R137) -/

/-- With the latch set the clearing is a change, so that the trip record is written again. -/
theorem Trp.cleared_ne {t : Trp} (h : t.latch = true) : t.cleared ≠ t := by
  intro e
  have : t.cleared.latch = true := e ▸ h
  exact Bool.false_ne_true this

/-- R137, R131, R95, R135: the state an accepted TRIP_RESET leaves, field by field. -/
theorem State.tripCleared_of_latched {s : State} (h : s.trp.latch = true) :
    s.tripCleared =
      let news := { s.news with trip := false }
      { s with
        trp := s.trp.cleared
        tripNumber := s.tripNumber + 1
        cram := s.cram.writeWords 0x00400 (tripWords (s.tripNumber + 1) s.trp.cleared)
        news := news
        irq := news.meets s.newsEn
        irqSignals := if news.meets s.newsEn && !s.irq then s.irqSignals + 1 else s.irqSignals
        tripOut := true
        gap := { s.gap with stands := s.gap.stands.map (fun g => { g with integrator := 0 }) } } := by
  rw [State.tripCleared, State.setTrp_of_ne (Trp.cleared_ne h)]
  rfl

@[simp] theorem State.tripCleared_gapStand (s : State) (k : Stand) :
    s.tripCleared.gapStand k = { s.gapStand k with integrator := 0 } := by
  rw [State.gapStand, State.gapStand, ← (s.setTrp_kept s.trp.cleared).gap]
  exact Table.get_map _ _ _

end Sys2Proof.Machine

section
open Sys2Proof Sys2Proof.Machine

/-- Settles O26: TRP's checks one by one in the order of R136; past them all the state is that of
`State.tripCleared_of_latched`. -/
theorem tripResetClearsTheLatch : Obligations.TripResetClearsTheLatch := by
  intro s i args ht refused
  have answers {u : State} {o : OrderOutcome} {rs : List Word}
      (ha : answerTripReset s ⟨i, .tripReset, args, .handed⟩ = (u, o, rs)) :
      exec .tripReset s = .next (u.complete o rs) := exec_tripReset ht rfl rfl ha
  refine ⟨fun hr => answers (answerTripReset_halted _ hr), fun hr => ?_⟩
  have names (c : Cause) (hc : s.trp.present.firstCause = some c) :
      refused .causePresent [natWord c.code, natWord c.location] :=
    answers (answerTripReset_present _ hr hc)
  refine ⟨fun he => names .external (Present.firstCause_external he), fun he =>
    ⟨fun hc => names .commanded (Present.firstCause_commanded he hc), fun hc =>
    ⟨fun hl => names .linkSilent (Present.firstCause_linkSilent he hc hl), fun hl =>
    ⟨fun k hk hlt => names (.forceLimit k) (Present.firstCause_forceLimit he hc hl hk hlt), fun hf => ?_⟩⟩⟩⟩
  have absent := Present.firstCause_none he hc hl hf
  refine ⟨fun clear => answers (answerTripReset_unlatched _ hr absent clear), fun latched =>
    ⟨s.tripCleared, answers (answerTripReset_latched _ hr absent latched), ?_⟩⟩
  have integrators := s.tripCleared_gapStand
  rw [State.tripCleared_of_latched latched] at integrators ⊢
  exact ⟨rfl, rfl, rfl, integrators, rfl, rfl, s.readWords_writeTripWords _ _, rfl, rfl, rfl, rfl, rfl, rfl,
    fun a ha => s.read_writeTripWords_outside _ _ ha⟩

end

/-! # COUNTER_PROGRAM (R143, R144) -/

namespace Sys2Proof.Machine

/-! ## The code values of groups and overflow actions (11.8) -/

theorem groupOf_eq_none {w : Word} (h : 4 < w.toNat) : groupOf w = none := by
  unfold groupOf
  split
  case h_6 => rfl
  all_goals omega

/-- A group code an order may carry names the group of that code. -/
theorem exists_groupOf {w : Word} (h : w.toNat ≤ 4) : ∃ g, groupOf w = some g ∧ g.code = w.toNat := by
  unfold groupOf
  generalize w.toNat = c at h ⊢
  interval_cases c
  exacts [⟨.off, rfl, rfl⟩, ⟨.segment, rfl, rfl⟩, ⟨.link, rfl, rfl⟩, ⟨.gap, rfl, rfl⟩, ⟨.track, rfl, rfl⟩]

theorem overflowOf_eq_none {w : Word} (h : 2 < w.toNat) : overflowOf w = none := by
  unfold overflowOf
  split
  case h_4 => rfl
  all_goals omega

/-- An overflow action code an order may carry names the action of that code. -/
theorem exists_overflowOf {w : Word} (h : w.toNat ≤ 2) : ∃ o, overflowOf w = some o ∧ o.code = w.toNat := by
  unfold overflowOf
  generalize w.toNat = c at h ⊢
  interval_cases c
  exacts [⟨.none, rfl, rfl⟩, ⟨.notice, rfl, rfl⟩, ⟨.trip, rfl, rfl⟩]

theorem natWord_flagByte (b : Bool) : natWord (flagByte b) = if b then 1 else 0 := by
  cases b <;> rfl

/-! ## A counter with group OFF -/

theorem Counter.passes_off {c : Counter} (h : c.group = .off) (e : Event) : c.passes e = false := by
  simp [Counter.passes, h]

theorem Counter.coilCleared_off {c : Counter} (h : c.group = .off) : c.coilCleared = c := by
  simp [Counter.coilCleared, h]

/-! ## What COUNTER_PROGRAM answers -/

/-- R144: a handed COUNTER_PROGRAM completes with EVC's answer. -/
theorem exec_counterProgram {s u : State} {t : Taken} {o : OrderOutcome} {rs : List Word}
    (ht : s.ord.taken = some t) (hp : t.phase = .handed) (hk : t.kind = .counterProgram)
    (ha : answerCounterProgram s t = (u, o, rs)) : exec .counterProgram s = .next (u.complete o rs) := by
  have h := State.answerOrder_of answerCounterProgram ht hp
  rw [hk, ha] at h
  exact congrArg Host.Outcome.next h

section
variable {s : State} {t : Taken}

theorem answerCounterProgram_badCounter (h : 7 < (t.arg 0).toNat) :
    answerCounterProgram s t = (s, .badArgument, [0x0D, 0]) :=
  dif_neg (by omega)

variable {n : Fin 8} (hn : (t.arg 0).toNat = n.val)
include hn

theorem answerCounterProgram_badGroup (hg : groupOf (t.arg 1) = none) :
    answerCounterProgram s t = (s, .badArgument, [0x0E, 0]) := by
  have hlt : (t.arg 0).toNat < 8 := hn ▸ n.isLt
  simp only [answerCounterProgram, dif_pos hlt, hg]

theorem answerCounterProgram_badAction {g : EventGroup} (hg : groupOf (t.arg 1) = some g)
    (ho : overflowOf (t.arg 6) = none) : answerCounterProgram s t = (s, .badArgument, [0x0F, 0]) := by
  have hlt : (t.arg 0).toNat < 8 := hn ▸ n.isLt
  simp only [answerCounterProgram, dif_pos hlt, hg, ho]

/-- R144: with every check passed the counter takes the programming, and the result words show what it held. -/
theorem answerCounterProgram_accepted {g : EventGroup} {o : Overflow} (hg : groupOf (t.arg 1) = some g)
    (ho : overflowOf (t.arg 6) = some o) :
    answerCounterProgram s t =
      ({ s with evc := { s.evc with counters := s.evc.counters.set n (programmed t g o) } }, .ok,
        [(s.evc.counters.get n).value, if (s.evc.counters.get n).flag then 1 else 0]) := by
  have hlt : (t.arg 0).toNat < 8 := hn ▸ n.isLt
  obtain rfl : (⟨(t.arg 0).toNat, hlt⟩ : Fin 8) = n := Fin.ext hn
  simp only [answerCounterProgram, dif_pos hlt, hg, ho, natWord_flagByte]

end

end Sys2Proof.Machine

section
open Sys2Proof Sys2Proof.Machine

/-- Settles O27: EVC's checks one by one in the order of R143; past them all the counter is `programmed` with the group
and the action the order's codes name, whichever they are. -/
theorem counterProgramSetsACounter : Obligations.CounterProgramSetsACounter := by
  intro s i args a refused ht
  have answers {u : State} {o : OrderOutcome} {rs : List Word}
      (ha : answerCounterProgram s ⟨i, .counterProgram, args, .handed⟩ = (u, o, rs)) :
      exec .counterProgram s = .next (u.complete o rs) := exec_counterProgram ht rfl rfl ha
  refine ⟨fun h => answers (answerCounterProgram_badCounter h), fun n hn =>
    ⟨fun h => answers (answerCounterProgram_badGroup hn (groupOf_eq_none h)), fun hg ho => ?_, fun hg ho => ?_⟩⟩
  · obtain ⟨g, hg, -⟩ := exists_groupOf hg
    exact answers (answerCounterProgram_badAction hn hg (overflowOf_eq_none ho))
  · obtain ⟨g, hg, group⟩ := exists_groupOf hg
    obtain ⟨o, ho, action⟩ := exists_overflowOf ho
    have accepted := answers (answerCounterProgram_accepted (t := ⟨i, .counterProgram, args, .handed⟩) hn hg ho)
    exact ⟨_, _, accepted, rfl, rfl, group, action, congrArg (_ &&& ·) (by cases g <;> rfl), rfl, rfl, rfl, rfl, rfl, rfl,
      fun off => ⟨Counter.passes_off off, Counter.coilCleared_off off⟩⟩

end


/-! # What every step can do

Each of the eight laws of Safety.lean speaks of a few fields of State. A `View` holds those fields, and beside them what of a
composite operation is underway (`Underway`): a segment popped and not yet reported, a trip latched whose flush is not yet
settled, an order completed and the next not yet taken. `Act` lists what the part does to a view; every operation of the model
is a sequence of acts, and every law, read on views, is kept by each act. -/

namespace Sys2Proof.Machine

/-- What of a composite operation is underway. -/
structure Underway where
  /-- R108: segments out of the table that RPT has not yet counted. -/
  popped : Word
  /-- R76: tracking has entered LOST, its table is being emptied. -/
  flushing : Bool
  /-- R54, R120: the silence count is ahead of LINK_SILENT. -/
  silent : Bool
  /-- R76, R130: a trip may have latched whose flush is not yet settled. -/
  tripping : Bool
  /-- R86: the work of a compute start is being done. -/
  working : Bool
  /-- R179: an order has been posted or completed and ORD is about to take the next; how many it has taken since. -/
  taking : Option Nat

/-- Nothing is underway. -/
def Underway.rest : Underway := ⟨0, false, false, false, false, none⟩

/-- What the laws of Safety.lean read of a state, and what is underway. -/
structure View extends Underway where
  pending : List Instr
  clock : Nat
  resetting : Bool
  tripIn : Bool
  tripOut : Bool
  commanded : Bool
  news : News
  newsEn : News
  irq : Bool
  cram : Memory
  statusNumber : Word
  tripNumber : Word
  queue : List (Fin 32)
  taken : Option (Fin 32)
  runState : RunState
  linked : Bool
  silence : Nat
  warn : Nat
  nodes : List Node
  active : Option Schedule
  mi : Int
  latch : Bool
  present : Present
  track : TrackState
  ids : List Half
  creating : Bool
  nextId : Half
  created : Word
  owesFlush : Bool
  reported : Word
  lost : Word
  computing : Bool

/-- The view of a state. -/
def State.view (s : State) (u : Underway) : View where
  toUnderway := u
  pending := s.pending
  clock := s.clock
  resetting := s.resetting.isSome
  tripIn := s.tripIn
  tripOut := s.tripOut
  commanded := s.ctrlCommanded
  news := s.news
  newsEn := s.newsEn
  irq := s.irq
  cram := s.cram
  statusNumber := s.hif.statusNumber
  tripNumber := s.tripNumber
  queue := s.ord.queue
  taken := s.ord.taken.map (·.slot)
  runState := s.lnk.runState
  linked := s.lnk.cycle.isSome
  silence := s.lnk.silence
  warn := s.lnk.warn
  nodes := s.lnk.nodes
  active := s.stu.active.map (·.sched)
  mi := s.gap.mi
  latch := s.trp.latch
  present := s.trp.present
  track := s.trk.state
  ids := s.trk.segs.map (·.id)
  creating := s.trk.creation.isSome
  nextId := s.trk.nextId
  created := s.trk.created
  owesFlush := s.trk.tripFlush
  reported := s.rpt.reported
  lost := s.rpt.lost
  computing := s.comp.isSome

/-- 10.2: the state word of slot `i`. -/
def View.slotState (v : View) (i : Fin 32) : Word := v.cram.readWord (slotBase i)

/-- NEWS and the request with it (R187, R188). -/
def View.withNews (v : View) (n : News) : View := { v with news := n, irq := n.meets v.newsEn }

/-- A write of `n` bytes from `lo` on touches neither a stamp (R135, R183) nor the state word of a slot (10.2). -/
def Spared (lo n : Nat) : Prop :=
  (∀ a ∈ [0x00400, 0x00404, 0x01000, 0x01004], a + 4 ≤ lo ∨ lo + n ≤ a) ∧
  ∀ i : Fin 32, slotBase i + 4 ≤ lo ∨ lo + n ≤ slotBase i

/-- What the part does to a view, and what begins and ends with it. -/
inductive Act : View → View → Prop where
  -- CRAM
  | write (v : View) (lo : Nat) (bs : List Byte) (h : Spared lo bs.length) : Act v { v with cram := v.cram.write lo bs }
  | status (v : View) (n : Word) (ws : List Word) (h : ws.length = 562) :
      Act v { v with statusNumber := n, cram := v.cram.writeWords 0x01000 (n :: n :: ws) }
  | tripRecord (v : View) (m : Word) (ws : List Word) (h : ws.length = 63) :
      Act v { v with tripNumber := m, cram := v.cram.writeWords 0x00400 (m :: m :: ws) }
  -- NEWS and NEWS_EN
  | news (v : View) (n : News) (h : n.trip = v.news.trip) : Act v (v.withNews n)
  | enable (v : View) (en : News) : Act v { v with newsEn := en, irq := v.news.meets en }
  -- orders
  | orders (v : View) (h : v.taking = none) : Act v { v with taking := some 0 }
  | post (v : View) (i : Fin 32) (hr : v.resetting = false) (he : v.slotState i = slotEmpty) (ht : v.taking = some 0) :
      Act v { v with cram := v.cram.writeWord (slotBase i) slotPosted, queue := v.queue ++ [i] }
  | take (v : View) (i : Fin 32) (rest : List (Fin 32)) (n : Nat) (hq : v.queue = i :: rest) (ht : v.taken = none)
      (hn : v.taking = some n) :
      Act v { v with cram := v.cram.writeWord (slotBase i) slotTaken, queue := rest, taken := some i, taking := some (n + 1) }
  | finish (v : View) (i : Fin 32) (w : Word) (h : v.taken = some i) (hw : w ≠ slotPosted ∧ w ≠ slotTaken)
      (ht : v.taking ≠ none) : Act v { v with cram := v.cram.writeWord (slotBase i) w, taken := none }
  | ordered (v : View) (n : Nat) (hn : v.taking = some n) (h : v.taken ≠ none ∨ v.queue = [] ∨ 33 ≤ n) :
      Act v { v with taking := none }
  | release (v : View) (i : Fin 32) (h : v.slotState i = slotDone ∨ v.slotState i = slotRefused) :
      Act v { v with cram := v.cram.writeWord (slotBase i) slotEmpty }
  -- the latch and the present level causes
  | latch (v : View) (hl : v.latch = false) (ht : v.tripping = true) :
      Act v { v.withNews { v.news with trip := true } with
        latch := true, tripOut := false, runState := v.runState.afterTrip, owesFlush := true }
  | clear (v : View) (hr : v.runState ≠ .halted) (hc : v.present.firstCause = none) :
      Act v { v.withNews { v.news with trip := false } with latch := false, tripOut := true }
  | lineOnly (v : View) (b : Bool) (hr : v.resetting = true) : Act v { v with tripIn := b }
  | external (v : View) (b : Bool) (hr : v.resetting = false) (hb : v.tripIn = b)
      (hl : b = false ∨ v.latch = true ∨ v.present.external = true) :
      Act v { v with tripIn := !b, present := { v.present with external := b } }
  | command (v : View) (b : Bool) (hb : v.commanded = !b)
      (hl : b = false ∨ v.latch = true ∨ v.present.commanded = true) :
      Act v { v with commanded := b, present := { v.present with commanded := b } }
  | count (v : View) (n : Nat) (hw : v.working = true) : Act v { v with silence := n, silent := true }
  | silence (v : View) (hl : v.silence ≠ 3 ∨ v.latch = true ∨ v.present.linkSilent = true) :
      Act v { v with present := { v.present with linkSilent := decide (v.silence = 3) }, silent := false }
  | force (v : View) (f : Table 7 Bool)
      (hl : v.latch = true ∨ ∀ k, f.get k = true → v.present.forceLimit.get k = true) :
      Act v { v with present := { v.present with forceLimit := f } }
  -- the link
  | linkStart (v : View) (nodes : List Node) (warn : Nat) (ht : v.taken ≠ none) (hr : v.runState = .halted)
      (hs : v.silent = false) (hw : warn = v.warn ∨ 1 ≤ warn ∧ warn ≤ 127) :
      Act v { v with
        runState := .ready, nodes := nodes.map Node.linkStarted, warn := warn, linked := false, silence := 0 }
  | beginCycle (v : View) (h : v.runState ≠ .halted) : Act v { v with linked := true }
  | endCycle (v : View) : Act v { v with linked := false }
  | run (v : View) (h : v.runState = .ready) (hl : v.latch = false) (ha : v.active.isSome = true) :
      Act v { v with runState := .run }
  | ready (v : View) (h : v.runState = .run) : Act v { v with runState := .ready }
  | halt (v : View) (hl : v.latch = true) (hw : v.working = false) :
      Act v { v with
        runState := .halted, linked := false, silence := 0
        present := { v.present with linkSilent := false, forceLimit := Table.fill 7 false } }
  | nodes (v : View) (f : Node → Node)
      (h : ∀ n, 1 ≤ v.warn → v.warn ≤ 127 → Safety.NodeOk v.warn n → Safety.NodeOk v.warn (f n)) :
      Act v { v with nodes := v.nodes.map f }
  -- computations and the flush a trip owes
  | openWork (v : View) (h : v.runState ≠ .halted ∨ v.linked = true) :
      Act v { v with computing := true, working := true, tripping := true }
  | closeWork (v : View) (hw : v.working = true) : Act v { v with working := false, tripping := false }
  | closeComputation (v : View) (hw : v.working = false) (ht : v.tripping = true) :
      Act v { v with computing := false }
  | trips (v : View) : Act v { v with tripping := true }
  | settled (v : View) (h : v.computing = true ∨ v.owesFlush = false) : Act v { v with tripping := false }
  | flushed (v : View) : Act v { v with owesFlush := false }
  -- the monitor and the active schedule
  | monitor (v : View) (m : Int)
      (h : match v.active with
        | none => m = v.mi ∨ m = 0
        | some c => m = v.mi ∨ m.natAbs ≤ c.miMax) : Act v { v with mi := m }
  | coil (v : View) (c : Schedule) : Act v { v with active := some c, mi := clampAbs c.miMax v.mi }
  -- tracking
  | create (v : View) (hn : v.ids.length < Config.tableSize) (hc : v.creating = true) (hf : v.flushing = false) :
      Act v { v with ids := v.ids ++ [v.nextId], nextId := v.nextId + 1, created := v.created + 1 }
  | pop (v : View) (i : Half) (rest : List Half) (h : v.ids = i :: rest) :
      Act v { v with ids := rest, popped := v.popped + 1 }
  | report (v : View) : Act v { v with reported := v.reported + 1, popped := v.popped - 1 }
  | lose (v : View) : Act v { v with lost := v.lost + 1, popped := v.popped - 1 }
  | startBar (v : View) : Act v { v with track := .normal, creating := true }
  | degrade (v : View) (h : v.track = .normal) : Act v { v with track := .degraded }
  | empty (v : View) (hi : v.ids = []) (hc : v.creating = false) : Act v { v with track := .idle }
  | enterLost (v : View) : Act v { v with track := .lost, flushing := true }
  | stopCreating (v : View) : Act v { v with creating := false }
  | leaveFlush (v : View) (hi : v.ids = []) (hc : v.creating = false) : Act v { v with flushing := false }

/-- The passing of time, and what a reset does to a view. -/
inductive Turn : View → View → Prop where
  | pass (v : View) (c : Nat) (h : v.clock ≤ c) : Turn v { v with clock := c }
  | take (v : View) (m : Memory) (h : v.cram.wf → m.wf) (hs : ∀ i, m.readWord (slotBase i) = 0) (nextId : Half) :
      Turn v { v with
        toUnderway := Underway.rest, resetting := true, tripOut := false, commanded := false
        news := { News.zero with trip := true }, newsEn := News.zero, irq := false, cram := m
        statusNumber := 0, tripNumber := 0, queue := [], taken := none, runState := .halted, linked := false
        silence := 0, warn := Config.defaultW, nodes := [], active := none, mi := 0, latch := true
        present := ⟨false, false, false, Table.fill 7 false⟩, track := .idle, ids := [], creating := false
        nextId := nextId, created := 0, owesFlush := false, reported := 0, lost := 0, computing := false }
  | complete (v : View) (hr : v.resetting = true) (n m : Word) (mem : Memory) (h : v.cram.wf → mem.wf)
      (hs : ∀ i, mem.readWord (slotBase i) = v.cram.readWord (slotBase i))
      (hn : mem.readWord 0x01000 = n ∧ mem.readWord 0x01004 = n)
      (hm : mem.readWord 0x00400 = m ∧ mem.readWord 0x00404 = m) :
      Turn v { v with
        resetting := false, statusNumber := n, tripNumber := m, cram := mem
        present := if v.tripIn then v.present else { v.present with external := true } }

/-- A sequence of acts. -/
abbrev Acts : View → View → Prop := Relation.ReflTransGen Act

/-- A sequence of acts, with the passing of time and resets among them. -/
abbrev Course : View → View → Prop := Relation.ReflTransGen fun v w => Act v w ∨ Turn v w

/-- What every act keeps, every sequence of acts keeps. -/
theorem Acts.keeps {P : View → Prop} (step : ∀ v w, Act v w → P v → P w) {v w : View} (h : Acts v w) (hv : P v) : P w := by
  induction h with
  | refl => exact hv
  | tail _ a ih => exact step _ _ a ih

theorem Course.of_acts {v w : View} (h : Acts v w) : Course v w := by
  induction h with
  | refl => exact .refl
  | tail _ a ih => exact ih.tail (.inl a)

theorem Course.keeps {P : View → Prop} (act : ∀ v w, Act v w → P v → P w) (turn : ∀ v w, Turn v w → P v → P w) {v w : View}
    (h : Course v w) (hv : P v) : P w := by
  induction h with
  | refl => exact hv
  | tail _ a ih => exact a.elim (fun a => act _ _ a ih) (fun a => turn _ _ a ih)

end Sys2Proof.Machine


/-! # The laws on views -/

namespace Sys2Proof.Machine

open Safety

/-! ## CRAM -/

def View.MemoryLaw (v : View) : Prop := v.cram.wf

theorem Act.keeps_memoryLaw (v w : View) (a : Act v w) (h : v.MemoryLaw) : w.MemoryLaw := by
  cases a with
  | write lo bs => exact Memory.write_wf lo bs h
  | status n ws => exact Memory.writeWords_wf _ _ h
  | tripRecord m ws => exact Memory.writeWords_wf _ _ h
  | post i => exact Memory.writeWord_wf _ _ h
  | take i => exact Memory.writeWord_wf _ _ h
  | finish i w => exact Memory.writeWord_wf _ _ h
  | release i => exact Memory.writeWord_wf _ _ h
  | _ => exact h

theorem Turn.keeps_memoryLaw (v w : View) (a : Turn v w) (h : v.MemoryLaw) : w.MemoryLaw := by
  cases a with
  | pass => exact h
  | take m hm => exact hm h
  | complete _ n m mem hm => exact hm h

/-! ## The latch, NEWS and the request -/

def View.LatchLaw (v : View) : Prop :=
  v.news.trip = v.latch ∧ v.tripOut = !v.latch ∧ v.irq = v.news.meets v.newsEn

theorem Act.keeps_latchLaw (v w : View) (a : Act v w) (h : v.LatchLaw) : w.LatchLaw := by
  obtain ⟨ht, ho, hi⟩ := h
  cases a with
  | news n hn => exact ⟨hn.trans ht, ho, rfl⟩
  | enable en => exact ⟨ht, ho, rfl⟩
  | latch => exact ⟨rfl, rfl, rfl⟩
  | clear => exact ⟨rfl, rfl, rfl⟩
  | _ => exact ⟨ht, ho, hi⟩

theorem Turn.keeps_latchLaw (v w : View) (a : Turn v w) (h : v.LatchLaw) : w.LatchLaw := by
  obtain ⟨ht, ho, hi⟩ := h
  cases a with
  | take => exact ⟨rfl, rfl, rfl⟩
  | _ => exact ⟨ht, ho, hi⟩

/-! ## The run state and the level causes -/

theorem Present.firstCause_eq_none {p : Present} :
    p.firstCause = none ↔
      p.external = false ∧ p.commanded = false ∧ p.linkSilent = false ∧ ∀ k, p.forceLimit.get k = false := by
  constructor
  · intro h
    unfold Present.firstCause at h
    split_ifs at h with he hc hl
    refine ⟨by simpa using he, by simpa using hc, by simpa using hl, fun k => ?_⟩
    have := List.find?_eq_none.1 (Option.map_eq_none_iff.1 h) k (by rw [allStands_eq_finRange]; simp)
    simpa using this
  · rintro ⟨he, hc, hl, hf⟩
    exact Present.firstCause_none he hc hl hf

/-- RunLaw and LevelLaw, with LINK_SILENT behind the silence count while a compute start is under work, and what that work
says of the run state. -/
structure View.RunLaw (v : View) : Prop where
  reset : v.resetting = true → v.runState = .halted ∧ v.queue = [] ∧ v.taken = none ∧ v.computing = false
  halted : v.runState = .halted → v.latch = true ∧ v.linked = false ∧ v.silence = 0
  run : v.runState = .run → v.latch = false ∧ v.active.isSome = true
  external : v.present.external = (!v.resetting && !v.tripIn)
  commanded : v.present.commanded = v.commanded
  linkSilent : v.silent = false → v.present.linkSilent = decide (v.silence = 3)
  clear : v.latch = false → v.present.firstCause = none
  working : v.working = true → v.computing = true ∧ v.runState ≠ .halted

theorem RunState.afterTrip_ne_run (r : RunState) : r.afterTrip ≠ .run := by cases r <;> decide

theorem RunState.afterTrip_eq_halted {r : RunState} : r.afterTrip = .halted ↔ r = .halted := by cases r <;> decide

theorem Act.keeps_runLaw (v w : View) (a : Act v w) (h : v.RunLaw) : w.RunLaw := by
  have clear := fun hl => Present.firstCause_eq_none.1 (h.clear hl)
  cases a with
  | post i hr => exact { h with reset := fun e => absurd e (by simp [hr]) }
  | take i rest n hq =>
    exact { h with reset := fun e => absurd (h.reset e).2.1 (by simp [hq]) }
  | finish i w ht =>
    exact { h with reset := fun e => absurd (h.reset e).2.2.1 (by simp [ht]) }
  | latch hl =>
    exact { h with
      reset := fun e => absurd (h.halted (h.reset e).1).1 (by simp [hl])
      halted := fun e => absurd (h.halted (RunState.afterTrip_eq_halted.1 e)).1 (by simp [hl])
      run := fun e => absurd e (RunState.afterTrip_ne_run _)
      clear := nofun
      working := fun e => ⟨(h.working e).1, fun e' => (h.working e).2 (RunState.afterTrip_eq_halted.1 e')⟩ }
  | clear hr hc =>
    exact { h with
      halted := fun e => absurd e hr
      run := fun e => ⟨rfl, (h.run e).2⟩
      clear := fun _ => hc }
  | lineOnly b hr => exact { h with external := by simpa [hr] using h.external }
  | external b hr hb hl =>
    refine { h with external := by simp [hr], clear := fun e => ?_ }
    obtain ⟨he, hc, hs, hf⟩ := clear e
    have hb : b = false := by
      rcases hl with rfl | hl | hl
      · rfl
      · exact absurd hl (by simp [show v.latch = false from e])
      · exact absurd hl (by simp [he])
    exact Present.firstCause_none hb hc hs hf
  | command b hb hl =>
    refine { h with commanded := rfl, clear := fun e => ?_ }
    obtain ⟨he, hc, hs, hf⟩ := clear e
    have hb : b = false := by
      rcases hl with rfl | hl | hl
      · rfl
      · exact absurd hl (by simp [show v.latch = false from e])
      · exact absurd hl (by simp [hc])
    exact Present.firstCause_none he hb hs hf
  | count n hw =>
    exact { h with
      halted := fun e => absurd e (h.working hw).2
      linkSilent := nofun }
  | silence hl =>
    refine { h with linkSilent := fun _ => rfl, clear := fun e => ?_ }
    obtain ⟨he, hc, hs, hf⟩ := clear e
    have hn : v.silence ≠ 3 := by
      rcases hl with hl | hl | hl
      · exact hl
      · exact absurd hl (by simp [show v.latch = false from e])
      · exact absurd hl (by simp [hs])
    exact Present.firstCause_none he hc (by simp [hn]) hf
  | force f hl =>
    refine { h with clear := fun e => ?_ }
    obtain ⟨he, hc, hs, hf⟩ := clear e
    refine Present.firstCause_none he hc hs fun k => ?_
    rcases hl with hl | hl
    · exact absurd hl (by simp [show v.latch = false from e])
    · exact Bool.eq_false_iff.2 fun hk => absurd (hl k hk) (by simp [hf k])
  | linkStart nodes warn ht hr hs =>
    exact { h with
      reset := fun e => absurd (h.reset e).2.2.1 ht
      halted := nofun
      run := nofun
      linkSilent := fun _ => by simpa [(h.halted hr).2.2] using h.linkSilent hs
      working := fun e => ⟨(h.working e).1, nofun⟩ }
  | beginCycle hr => exact { h with halted := fun e => absurd e hr }
  | endCycle => exact { h with halted := fun e => ⟨(h.halted e).1, rfl, (h.halted e).2.2⟩ }
  | run hr hl ha =>
    exact { h with
      reset := fun e => absurd (h.reset e).1 (by simp [hr])
      halted := nofun
      run := fun _ => ⟨hl, ha⟩
      working := fun e => ⟨(h.working e).1, nofun⟩ }
  | ready hr =>
    exact { h with
      reset := fun e => absurd (h.reset e).1 (by simp [hr])
      halted := nofun
      run := nofun
      working := fun e => ⟨(h.working e).1, nofun⟩ }
  | halt hl hw =>
    exact { h with
      reset := fun e => ⟨rfl, (h.reset e).2⟩
      halted := fun _ => ⟨hl, rfl, rfl⟩
      run := nofun
      linkSilent := fun _ => by simp
      clear := fun e => absurd hl (by simp [show v.latch = false from e])
      working := fun e => absurd hw (by simp [show v.working = true from e]) }
  | openWork hr =>
    have hr : v.runState ≠ .halted := by
      rcases hr with hr | hr
      · exact hr
      · exact fun e => absurd hr (by simp [(h.halted e).2.1])
    exact { h with
      reset := fun e => absurd (h.reset e).1 hr
      working := fun _ => ⟨rfl, hr⟩ }
  | closeWork hw => exact { h with working := nofun }
  | closeComputation hw =>
    exact { h with
      reset := fun e => ⟨(h.reset e).1, (h.reset e).2.1, (h.reset e).2.2.1, rfl⟩
      working := fun e => absurd hw (by simp [show v.working = true from e]) }
  | coil c => exact { h with run := fun e => ⟨(h.run e).1, rfl⟩ }
  | _ => exact { h with }

theorem Turn.keeps_runLaw (v w : View) (a : Turn v w) (h : v.RunLaw) : w.RunLaw := by
  cases a with
  | pass => exact { h with }
  | take m hm hs i =>
    exact {
      reset := fun _ => ⟨rfl, rfl, rfl, rfl⟩
      halted := fun _ => ⟨rfl, rfl, rfl⟩
      run := nofun
      external := rfl, commanded := rfl, linkSilent := fun _ => rfl
      clear := nofun
      working := nofun }
  | complete hr n m mem =>
    have latched : v.latch = true := (h.halted (h.reset hr).1).1
    have he := h.external
    rw [hr] at he
    exact {
      reset := nofun
      halted := h.halted
      run := h.run
      external := by cases hi : v.tripIn <;> simp [hi, he]
      commanded := by cases hi : v.tripIn <;> simp [h.commanded]
      linkSilent := fun e => by cases hi : v.tripIn <;> exact h.linkSilent e
      clear := fun e => absurd latched (by simp [show v.latch = false from e])
      working := fun e => absurd (h.reset hr).1 (h.working e).2 }

/-! ## The segment table -/

/-- TableLaw, ConservationLaw, TrackingLaw and FlushLaw: the segments popped and not yet reported count too, and the table
need not be empty in LOST before the flush is over. -/
structure View.TrackLaw (v : View) : Prop where
  bound : v.ids.length ≤ Config.tableSize
  ids : v.ids = (List.range v.ids.length).map (fun i => v.nextId - BitVec.ofNat 16 (v.ids.length - i))
  conserved : v.created = BitVec.ofNat 32 v.ids.length + v.reported + v.lost + v.popped
  empty : v.flushing = false → v.track = .lost ∨ v.track = .idle → v.ids = [] ∧ v.creating = false
  flush : v.tripping = false → v.computing = false → v.owesFlush = false
  working : v.working = true → v.computing = true

/-- The ids that count up to a next id, with that next id at the end, count up to the one after it. -/
theorem ids_append {ids : List Half} {n : Half}
    (h : ids = (List.range ids.length).map (fun i => n - BitVec.ofNat 16 (ids.length - i))) :
    ids ++ [n] = (List.range (ids.length + 1)).map (fun i => (n + 1) - BitVec.ofNat 16 (ids.length + 1 - i)) := by
  rw [List.range_succ, List.map_append]
  congr 1
  · conv_lhs => rw [h]
    refine List.map_congr_left fun i hi => ?_
    rw [show ids.length + 1 - i = ids.length - i + 1 by have := List.mem_range.1 hi; omega]
    bv_omega
  · simp

/-- The ids that count up to a next id still do without the first. -/
theorem ids_tail {i : Half} {rest : List Half} {n : Half}
    (h : i :: rest = (List.range (rest.length + 1)).map (fun j => n - BitVec.ofNat 16 (rest.length + 1 - j))) :
    rest = (List.range rest.length).map (fun j => n - BitVec.ofNat 16 (rest.length - j)) := by
  rw [List.range_succ_eq_map, List.map_cons, List.map_map] at h
  have tail := (List.cons.inj h).2
  conv_lhs => rw [tail]
  exact List.map_congr_left fun j _ => by simp

theorem Act.keeps_trackLaw (v w : View) (a : Act v w) (h : v.TrackLaw) : w.TrackLaw := by
  cases a with
  | latch hl ht => exact { h with flush := fun e => absurd ht (by simp [show v.tripping = false from e]) }
  | openWork => exact { h with flush := nofun, working := fun _ => rfl }
  | closeWork hw =>
    exact { h with flush := fun _ e => absurd e (by simp [h.working hw]), working := nofun }
  | closeComputation hw ht => exact { h with
      flush := fun e => absurd ht (by simp [show v.tripping = false from e])
      working := fun e => absurd hw (by simp [show v.working = true from e]) }
  | trips => exact { h with flush := nofun }
  | settled hs =>
    refine { h with flush := fun _ e => ?_ }
    rcases hs with hs | hs
    · exact absurd hs (by simp [show v.computing = false from e])
    · exact hs
  | flushed => exact { h with flush := fun _ _ => rfl }
  | create hn hc hf =>
    have live : ¬ (v.track = .lost ∨ v.track = .idle) := fun e => absurd hc (by simp [(h.empty hf e).2])
    have length : (v.ids ++ [v.nextId]).length = v.ids.length + 1 := by simp
    exact { h with
      bound := by show (v.ids ++ [v.nextId]).length ≤ _; rw [length]; exact hn
      ids := by dsimp only; rw [length]; exact ids_append h.ids
      conserved := by
        dsimp only
        rw [length, h.conserved]
        bv_omega
      empty := fun _ e => absurd e live }
  | pop i rest hi =>
    have length : v.ids.length = rest.length + 1 := by simp [hi]
    exact { h with
      bound := by have := h.bound; show rest.length ≤ _; omega
      ids := ids_tail (by have := h.ids; rw [length, hi] at this; exact this)
      conserved := by
        dsimp only
        rw [h.conserved, length]
        bv_omega
      empty := fun hf e => absurd (h.empty hf e).1 (by simp [hi]) }
  | report => exact { h with conserved := by dsimp only; rw [h.conserved]; bv_omega }
  | lose => exact { h with conserved := by dsimp only; rw [h.conserved]; bv_omega }
  | startBar => exact { h with empty := fun _ e => by simp at e }
  | degrade => exact { h with empty := fun _ e => by simp at e }
  | empty hi hc => exact { h with empty := fun _ _ => ⟨hi, hc⟩ }
  | enterLost => exact { h with empty := nofun }
  | stopCreating => exact { h with empty := fun hf e => ⟨(h.empty hf e).1, rfl⟩ }
  | leaveFlush hi hc => exact { h with empty := fun _ _ => ⟨hi, hc⟩ }
  | _ => exact { h with }

theorem Turn.keeps_trackLaw (v w : View) (a : Turn v w) (h : v.TrackLaw) : w.TrackLaw := by
  cases a with
  | take =>
    exact {
      bound := by simp [Config.tableSize], ids := rfl, conserved := rfl, empty := fun _ _ => ⟨rfl, rfl⟩
      flush := fun _ _ => rfl, working := nofun }
  | _ => exact { h with }

/-! ## The monitor -/

def View.MonitorLaw (v : View) : Prop :=
  match v.active with
  | none => v.mi = 0
  | some c => v.mi.natAbs ≤ c.miMax

theorem Act.keeps_monitorLaw (v w : View) (a : Act v w) (h : v.MonitorLaw) : w.MonitorLaw := by
  cases a with
  | monitor m hm =>
    unfold View.MonitorLaw at h ⊢
    dsimp only
    cases ha : v.active with
    | none =>
      simp only [ha] at h hm ⊢
      rcases hm with rfl | rfl
      · exact h
      · rfl
    | some c =>
      simp only [ha] at h hm ⊢
      rcases hm with rfl | hm
      · exact h
      · exact hm
  | coil c => exact clampAbs_le _ _
  | _ => exact h

theorem Turn.keeps_monitorLaw (v w : View) (a : Turn v w) (h : v.MonitorLaw) : w.MonitorLaw := by
  cases a with
  | take => rfl
  | _ => exact h

/-! ## The nodes -/

def View.NodeLaw (v : View) : Prop :=
  (1 ≤ v.warn ∧ v.warn ≤ 127) ∧ ∀ n ∈ v.nodes, NodeOk v.warn n

theorem Node.linkStarted_ok {warn : Nat} (h : 1 ≤ warn) (n : Node) : NodeOk warn n.linkStarted :=
  ⟨Nat.zero_le _, Nat.zero_lt_succ _, h, rfl⟩

theorem Act.keeps_nodeLaw (v w : View) (a : Act v w) (h : v.NodeLaw) : w.NodeLaw := by
  obtain ⟨⟨lo, hi⟩, ok⟩ := h
  cases a with
  | linkStart nodes warn _ _ _ hw =>
    have hw : 1 ≤ warn ∧ warn ≤ 127 := by
      rcases hw with rfl | hw
      · exact ⟨lo, hi⟩
      · exact hw
    refine ⟨hw, fun n hn => ?_⟩
    obtain ⟨x, -, rfl⟩ := List.mem_map.1 hn
    exact Node.linkStarted_ok hw.1 x
  | nodes f hf =>
    refine ⟨⟨lo, hi⟩, fun n hn => ?_⟩
    obtain ⟨x, hx, rfl⟩ := List.mem_map.1 hn
    exact hf x lo hi (ok x hx)
  | _ => exact ⟨⟨lo, hi⟩, ok⟩

theorem Turn.keeps_nodeLaw (v w : View) (a : Turn v w) (h : v.NodeLaw) : w.NodeLaw := by
  obtain ⟨⟨lo, hi⟩, ok⟩ := h
  cases a with
  | take => exact ⟨⟨Nat.le_add_left 1 95, Nat.le_add_right 96 31⟩, fun n hn => absurd hn List.not_mem_nil⟩
  | _ => exact ⟨⟨lo, hi⟩, ok⟩

/-! ## The slots -/

/-- A write that spares the slots' state words leaves them as they are. -/
theorem Memory.readWord_write_slot {m : Memory} {lo : Nat} {bs : List Byte} (h : Spared lo bs.length) (i : Fin 32) :
    (m.write lo bs).readWord (slotBase i) = m.readWord (slotBase i) :=
  Memory.readWord_write_outside _ _ _ _ (h.2 i)

/-- The state words of the slots lie apart. -/
theorem Memory.readWord_writeWord_slot (m : Memory) (i j : Fin 32) (w : Word) :
    (m.writeWord (slotBase i) w).readWord (slotBase j) = if j = i then w else m.readWord (slotBase j) := by
  split
  · next h => rw [h]; exact m.readWord_writeWord _ _
  · next h =>
    refine Memory.readWord_write_outside _ _ _ _ ?_
    have : i.val ≠ j.val := fun e => h (Fin.ext e.symm)
    simp only [slotBase, wordBytes_length]
    omega

/-- OrderLaw; while an order has been posted or completed, ORD may be idle beside a queue, of which it has then taken all it
can. -/
structure View.OrderLaw (v : View) : Prop where
  nodup : v.queue.Nodup
  queued : ∀ i, i ∈ v.queue ↔ v.slotState i = slotPosted
  taken : ∀ i, v.slotState i = slotTaken ↔ v.taken = some i
  idle : v.taking = none → v.taken = none → v.queue = []
  room : ∀ n, v.taking = some n → n + v.queue.length ≤ 32

theorem View.OrderLaw.of_slots {v w : View} (h : v.OrderLaw) (hs : ∀ i, w.slotState i = v.slotState i)
    (hq : w.queue = v.queue) (ht : w.taken = v.taken) (hn : w.taking = v.taking) : w.OrderLaw where
  nodup := hq ▸ h.nodup
  queued i := by rw [hq, hs]; exact h.queued i
  taken i := by rw [ht, hs]; exact h.taken i
  idle := by rw [hn, ht, hq]; exact h.idle
  room := by rw [hn, hq]; exact h.room

theorem Fin.nodup_length_le {n : Nat} {l : List (Fin n)} (h : l.Nodup) : l.length ≤ n := by
  simpa using h.length_le_card

theorem Act.keeps_orderLaw (v w : View) (a : Act v w) (h : v.OrderLaw) : w.OrderLaw := by
  cases a with
  | write lo bs hs => exact h.of_slots (fun i => Memory.readWord_write_slot hs i) rfl rfl rfl
  | status n ws hw =>
    refine h.of_slots (fun i => Memory.readWord_write_outside _ _ _ _ ?_) rfl rfl rfl
    simp only [words_length, List.length_cons, hw, slotBase]
    omega
  | tripRecord n ws hw =>
    refine h.of_slots (fun i => Memory.readWord_write_outside _ _ _ _ ?_) rfl rfl rfl
    simp only [words_length, List.length_cons, hw, slotBase]
    omega
  | orders hn =>
    refine ⟨h.nodup, h.queued, h.taken, nofun, fun n hm => ?_⟩
    obtain rfl : 0 = n := Option.some.inj hm
    rw [Nat.zero_add]
    exact Fin.nodup_length_le h.nodup
  | post i hr he ht =>
    have fresh : i ∉ v.queue := fun hi => by rw [h.queued, he] at hi; exact absurd hi (by decide)
    have nodup : (v.queue ++ [i]).Nodup := by
      rw [List.nodup_append]
      exact ⟨h.nodup, List.nodup_singleton i, fun a ha b hb => by simp at hb; rintro rfl; exact fresh (hb ▸ ha)⟩
    have slot (j : Fin 32) := v.cram.readWord_writeWord_slot i j slotPosted
    refine ⟨nodup, fun j => ?_, fun j => ?_, fun e => absurd (ht.symm.trans e) nofun, fun n hn => ?_⟩
    · show j ∈ v.queue ++ [i] ↔ (v.cram.writeWord (slotBase i) slotPosted).readWord (slotBase j) = slotPosted
      rw [slot, List.mem_append, List.mem_singleton]
      split
      · next e => simp [e]
      · next e => simp [e]; exact h.queued j
    · show (v.cram.writeWord (slotBase i) slotPosted).readWord (slotBase j) = slotTaken ↔ v.taken = some j
      rw [slot, ← h.taken]
      split
      · next e => rw [e, he]; decide
      · exact Iff.rfl
    · obtain rfl : 0 = n := Option.some.inj (ht.symm.trans hn)
      show 0 + (v.queue ++ [i]).length ≤ 32
      rw [Nat.zero_add]
      exact Fin.nodup_length_le nodup
  | take i rest n hq ht hn =>
    obtain ⟨fresh, nodup⟩ := List.nodup_cons.1 (hq ▸ h.nodup)
    have slot (j : Fin 32) := v.cram.readWord_writeWord_slot i j slotTaken
    refine ⟨nodup, fun j => ?_, fun j => ?_, nofun, fun m hm => ?_⟩
    · show j ∈ rest ↔ (v.cram.writeWord (slotBase i) slotTaken).readWord (slotBase j) = slotPosted
      rw [slot]
      split
      · next e => simp only [e, fresh, false_iff]; decide
      · next e =>
        have := h.queued j
        rwa [hq, List.mem_cons, or_iff_right e] at this
    · show (v.cram.writeWord (slotBase i) slotTaken).readWord (slotBase j) = slotTaken ↔ some i = some j
      rw [slot]
      split
      · next e => simp [e]
      · next e =>
        have := h.taken j
        rw [ht] at this
        simp only [reduceCtorEq, iff_false] at this
        simp only [Option.some.injEq, Ne.symm e, iff_false]
        exact this
    · cases hm
      have := h.room n hn
      simp only [hq, List.length_cons] at this
      show n + 1 + rest.length ≤ 32
      omega
  | finish i x ht hw hn =>
    have slot (j : Fin 32) := v.cram.readWord_writeWord_slot i j x
    have posted : v.slotState i ≠ slotPosted := by rw [(h.taken i).2 ht]; decide
    refine ⟨h.nodup, fun j => ?_, fun j => ?_, fun e => absurd e hn, fun m hm => ?_⟩
    · show j ∈ v.queue ↔ (v.cram.writeWord (slotBase i) x).readWord (slotBase j) = slotPosted
      rw [slot, h.queued]
      split
      · next e => rw [e]; exact iff_of_false posted hw.1
      · exact Iff.rfl
    · show (v.cram.writeWord (slotBase i) x).readWord (slotBase j) = slotTaken ↔ none = some j
      rw [slot]
      simp only [reduceCtorEq, iff_false]
      split
      · exact hw.2
      · next e => exact fun hj => e (by have := (h.taken j).1 hj; rw [ht] at this; exact (Option.some.inj this).symm)
    · exact h.room m hm
  | ordered n hn hd =>
    refine ⟨h.nodup, h.queued, h.taken, fun _ e => ?_, nofun⟩
    have := h.room n hn
    rcases hd with hd | hd | hd
    · exact absurd e hd
    · exact hd
    · omega
  | release i hi =>
    have slot (j : Fin 32) := v.cram.readWord_writeWord_slot i j slotEmpty
    have old : v.slotState i ≠ slotPosted ∧ v.slotState i ≠ slotTaken := by
      rcases hi with hi | hi <;> rw [hi] <;> decide
    refine ⟨h.nodup, fun j => ?_, fun j => ?_, h.idle, h.room⟩
    · show j ∈ v.queue ↔ (v.cram.writeWord (slotBase i) slotEmpty).readWord (slotBase j) = slotPosted
      rw [slot, h.queued]
      split
      · next e => rw [e]; exact iff_of_false old.1 (by decide)
      · exact Iff.rfl
    · show (v.cram.writeWord (slotBase i) slotEmpty).readWord (slotBase j) = slotTaken ↔ v.taken = some j
      rw [slot, ← h.taken]
      split
      · next e => rw [e]; exact iff_of_false (by decide) old.2
      · exact Iff.rfl
  | _ => exact h.of_slots (fun _ => rfl) rfl rfl rfl

theorem Turn.keeps_orderLaw (v w : View) (a : Turn v w) (h : v.OrderLaw) : w.OrderLaw := by
  cases a with
  | pass => exact h.of_slots (fun _ => rfl) rfl rfl rfl
  | take m hm hs =>
    have slot (i : Fin 32) : m.readWord (slotBase i) = 0 := hs i
    refine ⟨List.nodup_nil, fun i => ?_, fun i => ?_, fun _ _ => rfl, nofun⟩
    · show i ∈ [] ↔ m.readWord (slotBase i) = slotPosted
      rw [slot]; simp [slotPosted]
    · show m.readWord (slotBase i) = slotTaken ↔ none = some i
      rw [slot]; simp [slotTaken]
  | complete hr n m mem hm hs => exact h.of_slots hs rfl rfl rfl

/-! ## The stamps -/

def View.StampLaw (v : View) : Prop :=
  v.resetting = false →
    (v.cram.readWord 0x01000 = v.statusNumber ∧ v.cram.readWord 0x01004 = v.statusNumber) ∧
    v.cram.readWord 0x00400 = v.tripNumber ∧ v.cram.readWord 0x00404 = v.tripNumber

/-- The first two words of a list of words written. -/
theorem Memory.readWord_writeWords_first (m : Memory) (a : Nat) (x y : Word) (ws : List Word) :
    (m.writeWords a (x :: y :: ws)).readWord a = x ∧ (m.writeWords a (x :: y :: ws)).readWord (a + 4) = y := by
  have h := m.readWords_writeWords a (x :: y :: ws)
  simp only [List.length_cons, Memory.readWords, List.cons.injEq] at h
  exact ⟨h.1, h.2.1⟩

/-- A list of words written apart from a word leaves it. -/
theorem Memory.readWord_writeWords_outside (m : Memory) (lo : Nat) (ws : List Word) (a : Nat)
    (h : a + 4 ≤ lo ∨ lo + 4 * ws.length ≤ a) : (m.writeWords lo ws).readWord a = m.readWord a :=
  Memory.readWord_write_outside _ _ _ _ (by rwa [words_length])

/-- The stamps lie apart from the state words of the slots. -/
theorem Spared.slotState (i : Fin 32) (a : Nat) (h : a ∈ [0x00400, 0x00404, 0x01000, 0x01004]) :
    a + 4 ≤ slotBase i := by
  simp only [List.mem_cons, List.not_mem_nil, or_false] at h
  simp only [slotBase]
  omega

/-- A change of CRAM apart from the four stamps. -/
theorem View.StampLaw.of_stamps {v w : View} (h : v.StampLaw)
    (hs : ∀ a ∈ [0x00400, 0x00404, 0x01000, 0x01004], w.cram.readWord a = v.cram.readWord a)
    (hr : w.resetting = v.resetting) (hn : w.statusNumber = v.statusNumber) (hm : w.tripNumber = v.tripNumber) :
    w.StampLaw := by
  simp only [List.mem_cons, List.not_mem_nil, or_false, forall_eq_or_imp, forall_eq] at hs
  obtain ⟨h0, h1, h2, h3⟩ := hs
  intro e
  rw [h0, h1, h2, h3, hn, hm]
  exact h (hr ▸ e)

theorem View.StampLaw.of_slot {v w : View} (h : v.StampLaw) (i : Fin 32) (x : Word)
    (hc : w.cram = v.cram.writeWord (slotBase i) x) (hr : w.resetting = v.resetting)
    (hn : w.statusNumber = v.statusNumber) (hm : w.tripNumber = v.tripNumber) : w.StampLaw :=
  h.of_stamps (fun a ha => by
    rw [hc]
    exact Memory.readWord_write_outside _ _ _ _ (.inl (Spared.slotState i a ha))) hr hn hm

theorem Act.keeps_stampLaw (v w : View) (a : Act v w) (h : v.StampLaw) : w.StampLaw := by
  cases a with
  | write lo bs hs =>
    exact h.of_stamps (fun a ha => Memory.readWord_write_outside _ _ _ _ (hs.1 a ha)) rfl rfl rfl
  | status n ws hw =>
    intro e
    refine ⟨Memory.readWord_writeWords_first _ _ _ _ _, ?_⟩
    show (v.cram.writeWords 0x01000 (n :: n :: ws)).readWord 0x00400 = v.tripNumber ∧
      (v.cram.writeWords 0x01000 (n :: n :: ws)).readWord 0x00404 = v.tripNumber
    rw [Memory.readWord_writeWords_outside _ _ _ _ (by omega), Memory.readWord_writeWords_outside _ _ _ _ (by omega)]
    exact (h e).2
  | tripRecord m ws hw =>
    intro e
    refine ⟨?_, Memory.readWord_writeWords_first _ _ _ _ _⟩
    show (v.cram.writeWords 0x00400 (m :: m :: ws)).readWord 0x01000 = v.statusNumber ∧
      (v.cram.writeWords 0x00400 (m :: m :: ws)).readWord 0x01004 = v.statusNumber
    have length : (m :: m :: ws).length = 65 := by simp [hw]
    rw [Memory.readWord_writeWords_outside _ _ _ _ (by omega), Memory.readWord_writeWords_outside _ _ _ _ (by omega)]
    exact (h e).1
  | post i => exact h.of_slot i _ rfl rfl rfl rfl
  | take i => exact h.of_slot i _ rfl rfl rfl rfl
  | finish i x => exact h.of_slot i _ rfl rfl rfl rfl
  | release i => exact h.of_slot i _ rfl rfl rfl rfl
  | _ => exact h

theorem Turn.keeps_stampLaw (v w : View) (a : Turn v w) (h : v.StampLaw) : w.StampLaw := by
  cases a with
  | pass => exact h
  | take => exact nofun
  | complete hr n m mem hw hs hn hm => exact fun _ => ⟨hn, hm⟩

/-! ## The queue of commands and the clock -/

theorem Act.keeps_pending (v w : View) (a : Act v w) : w.pending = v.pending := by cases a <;> rfl

theorem Turn.keeps_pending (v w : View) (a : Turn v w) : w.pending = v.pending := by cases a <;> rfl

/-- Time passes between acts. -/
theorem Act.keeps_clock (v w : View) (a : Act v w) : w.clock = v.clock := by cases a <;> rfl

theorem Turn.clock_le (v w : View) (a : Turn v w) : v.clock ≤ w.clock := by
  cases a with
  | pass c h => exact h
  | _ => exact Nat.le_refl _

/-- Nothing but a reset takes or completes one. -/
theorem Act.keeps_resetting (v w : View) (a : Act v w) : w.resetting = v.resetting := by cases a <;> rfl

end Sys2Proof.Machine


/-! # The operations as acts -/

namespace Sys2Proof.Machine

/-- From `s` to `t` by acts, with the same underway before and after. -/
def State.Does (u : Underway) (s t : State) : Prop := Acts (s.view u) (t.view u)

section
variable {u : Underway} {s t : State}

theorem State.Does.refl (s : State) : s.Does u s := Relation.ReflTransGen.refl

theorem State.Does.trans {x : State} (h : s.Does u t) (g : t.Does u x) : s.Does u x := Relation.ReflTransGen.trans h g

/-- A change of nothing that a view holds. -/
theorem State.Does.same (h : t.view u = s.view u) : s.Does u t := by
  unfold State.Does
  rw [h]

theorem State.Does.act (a : Act (s.view u) (t.view u)) : s.Does u t := Relation.ReflTransGen.single a

theorem Acts.step {v w x y : View} (h : Acts v w) (a : Act w x) (e : x = y) : Acts v y := e ▸ h.tail a

theorem State.Does.foldl {α : Type} {f : State → α → State} (h : ∀ (s : State) a, s.Does u (f s a)) (l : List α) (s : State) :
    s.Does u (l.foldl f s) := by
  induction l generalizing s with
  | nil => exact .refl s
  | cons a l ih => exact (h s a).trans (ih _)

end

/-! ## Words of CRAM -/

/-- Staging, the pages, the arm area and the words a slot does not share with its state word are apart from stamps and slot
states. -/
theorem Spared.high {lo n : Nat} (h : 0x03000 ≤ lo) : Spared lo n := by
  refine ⟨fun a ha => .inl ?_, fun i => .inl ?_⟩
  · simp only [List.mem_cons, List.not_mem_nil, or_false] at ha
    omega
  · simp only [slotBase]
    omega

theorem Spared.low {lo n : Nat} (h : lo + n ≤ 0x00400) : Spared lo n := by
  refine ⟨fun a ha => .inr ?_, fun i => .inr ?_⟩
  · simp only [List.mem_cons, List.not_mem_nil, or_false] at ha
    omega
  · simp only [slotBase]
    omega

/-- What lies inside one slot, past its state word. -/
theorem Spared.inSlot {lo n : Nat} (i : Fin 32) (h : slotBase i + 4 ≤ lo) (hn : lo + n ≤ slotBase i + 0x80) :
    Spared lo n := by
  simp only [slotBase] at h hn
  refine ⟨fun a ha => .inl ?_, fun j => ?_⟩
  · simp only [List.mem_cons, List.not_mem_nil, or_false] at ha
    omega
  · simp only [slotBase]
    omega

section
variable {u : Underway}

theorem State.putWords_does (s : State) (a : Nat) (ws : List Word) (h : Spared a (4 * ws.length)) :
    s.Does u (s.putWords a ws) :=
  .act (Act.write _ a _ (by rwa [words_length]))

theorem State.putWord_does (s : State) (a : Nat) (w : Word) (h : Spared a 4) : s.Does u (s.putWord a w) :=
  .act (Act.write _ a _ h)

/-! ## NEWS -/

theorem State.withNews_does (s : State) (n : News) (h : n.trip = s.news.trip) : s.Does u (s.withNews n) :=
  .act (Act.news _ n h)

theorem State.noteOrder_does (s : State) : s.Does u s.noteOrder := s.withNews_does _ rfl
theorem State.notePage_does (s : State) : s.Does u s.notePage := s.withNews_does _ rfl
theorem State.noteNode_does (s : State) : s.Does u s.noteNode := s.withNews_does _ rfl
theorem State.noteCounter_does (s : State) : s.Does u s.noteCounter := s.withNews_does _ rfl
theorem State.noteCoil_does (s : State) : s.Does u s.noteCoil := s.withNews_does _ rfl
theorem State.noteCapture_does (s : State) : s.Does u s.noteCapture := s.withNews_does _ rfl

/-! ## TRP -/

/-- A view with the latch, the present level causes and their conditions replaced. -/
def View.aside (v : View) (latch : Bool) (p : Present) (line command : Bool) : View :=
  { v with latch := latch, present := p, tripIn := line, commanded := command }

theorem State.view_aside {s : State} {latch : Bool} {p : Present} {line command : Bool} (hl : latch = s.trp.latch)
    (hp : p = s.trp.present) (hi : line = s.tripIn) (hc : command = s.ctrlCommanded) :
    (s.view u).aside latch p line command = s.view u := by
  subst hl hp hi hc
  rfl

theorem tripWords_eq (m : Word) (t : Trp) : ∃ ws, tripWords m t = m :: m :: ws ∧ ws.length = 63 := by
  refine ⟨(tripWords m t).drop 2, rfl, ?_⟩
  rw [List.length_drop, tripWords_length]

/-- R135: a change of TRP's content writes the trip record; the latch and the level causes are left to other acts. -/
theorem State.setTrp_acts (s : State) (t : Trp) (b : Bool) (p : Present) (l c : Bool) :
    Acts ((s.view u).aside b p l c) (((s.setTrp t).view u).aside b p l c) := by
  unfold State.setTrp
  split
  · exact .refl
  · obtain ⟨ws, he, hl⟩ := tripWords_eq (s.tripNumber + 1) t
    rw [he]
    exact .single (Act.tripRecord ((s.view u).aside b p l c) _ ws hl)

/-- The conditions of the present level causes are not TRP's to change. -/
structure State.SameConditions (s t : State) : Prop where
  tripIn : t.tripIn = s.tripIn
  commanded : t.ctrlCommanded = s.ctrlCommanded
  silence : t.lnk.silence = s.lnk.silence

theorem State.setTrp_conditions (s : State) (t : Trp) : s.SameConditions (s.setTrp t) := by
  rw [s.setTrp_frame t]
  exact ⟨rfl, rfl, rfl⟩

/-- A change of TRP's content apart from the latch and the present level causes. -/
theorem State.setTrp_does (s : State) (t : Trp) (hl : t.latch = s.trp.latch) (hp : t.present = s.trp.present) :
    s.Does u (s.setTrp t) := by
  have h := s.setTrp_acts (u := u) t s.trp.latch s.trp.present s.tripIn s.ctrlCommanded
  have same := s.setTrp_conditions t
  have trp := s.setTrp_trp t
  rwa [State.view_aside (s := s) rfl rfl rfl rfl,
    State.view_aside (by rw [trp, hl]) (by rw [trp, hp]) same.tripIn.symm same.commanded.symm] at h

@[simp] theorem Trp.listed_latch (t : Trp) (c : Cause) (time : Word) : (t.listed c time).latch = t.latch := by
  unfold Trp.listed
  dsimp only
  split
  · rfl
  · split <;> rfl

@[simp] theorem Trp.listed_present (t : Trp) (c : Cause) (time : Word) : (t.listed c time).present = t.present := by
  unfold Trp.listed
  dsimp only
  split
  · rfl
  · split <;> rfl

/-- A detection leaves the latch set, and TRP's present level causes as they were given. -/
theorem State.detectFrom_trp (s : State) (t : Trp) (c : Cause) (time : Word) (ht : t.latch = s.trp.latch) :
    (s.detectFrom t c time).trp.latch = true ∧ (s.detectFrom t c time).trp.present = t.present := by
  unfold State.detectFrom
  split
  · next h => simp [ht, h]
  · simp [State.latchEffects, Trp.latched]

theorem State.detectFrom_conditions (s : State) (t : Trp) (c : Cause) (time : Word) :
    s.SameConditions (s.detectFrom t c time) := by
  unfold State.detectFrom
  split
  · exact s.setTrp_conditions _
  · have h := s.setTrp_conditions (t.latched (s.firstOutOf c time))
    exact ⟨h.tripIn, h.commanded, h.silence⟩

/-- R129, R130, R132: a detection is listed or latches; the present level causes are left to other acts. -/
theorem State.detectFrom_acts (s : State) (t : Trp) (c : Cause) (time : Word) (hu : u.tripping = true) (p : Present)
    (l d : Bool) :
    Acts ((s.view u).aside s.trp.latch p l d) (((s.detectFrom t c time).view u).aside true p l d) := by
  unfold State.detectFrom
  split
  · next h =>
    rw [h]
    exact s.setTrp_acts _ _ _ _ _
  · next h =>
    have h : s.trp.latch = false := Bool.eq_false_iff.2 h
    rw [h, State.latchEffects]
    refine (s.setTrp_acts (t.latched (s.firstOutOf c time)) false p l d).tail ?_
    exact Act.latch (((s.setTrp (t.latched (s.firstOutOf c time))).view u).aside false p l d) rfl hu

theorem State.detect_does (s : State) (c : Cause) (time : Word) (hu : u.tripping = true) :
    s.Does u (s.detect c time) := by
  have h := s.detectFrom_acts (u := u) s.trp c time hu s.trp.present s.tripIn s.ctrlCommanded
  have trp := s.detectFrom_trp s.trp c time rfl
  have same := s.detectFrom_conditions s.trp c time
  rwa [State.view_aside (s := s) rfl rfl rfl rfl,
    State.view_aside trp.1.symm trp.2.symm same.tripIn.symm same.commanded.symm] at h

/-- R117: TRP takes `t`, with a detection where a level cause joins. -/
def State.takeLevel (s : State) (t : Trp) (c : Cause) (joins : Bool) : State :=
  if joins then s.detectFrom t c s.time else s.setTrp t

/-- R117: a level cause joins, with a set latch, or leaves; the present level causes are left to the act that follows. -/
theorem State.takeLevel_acts (s : State) (t : Trp) (c : Cause) (joins : Bool) (hu : u.tripping = true)
    (p : Present) (l d : Bool) :
    Acts ((s.view u).aside s.trp.latch p l d) (((s.takeLevel t c joins).view u).aside (joins || s.trp.latch) p l d) := by
  cases joins
  · exact s.setTrp_acts _ _ _ _ _
  · exact s.detectFrom_acts _ _ _ hu _ _ _

theorem State.takeLevel_trp (s : State) (t : Trp) (c : Cause) (joins : Bool) (ht : t.latch = s.trp.latch) :
    (s.takeLevel t c joins).trp.latch = (joins || s.trp.latch) ∧ (s.takeLevel t c joins).trp.present = t.present := by
  cases joins
  · simpa [State.takeLevel] using ht
  · exact s.detectFrom_trp _ _ _ ht

theorem State.takeLevel_conditions (s : State) (t : Trp) (c : Cause) (joins : Bool) :
    s.SameConditions (s.takeLevel t c joins) := by
  cases joins
  · exact s.setTrp_conditions _
  · exact s.detectFrom_conditions _ _ _

/-- What is underway of a reset is not TRP's to change. -/
theorem State.takeLevel_resetting (s : State) (t : Trp) (c : Cause) (joins : Bool) :
    (s.takeLevel t c joins).resetting = s.resetting := by
  unfold State.takeLevel State.detectFrom
  split
  · split
    · rw [s.setTrp_frame]
    · rw [s.setTrp_frame]; rfl
  · rw [s.setTrp_frame]

/-- R121: FORCE_LIMIT of a stand joins or leaves. -/
theorem State.setForceLimit_does (s : State) (k : Stand) (b : Bool) (hu : u.tripping = true) :
    s.Does u (s.setForceLimit k b) := by
  let f := s.trp.present.forceLimit.set k b
  let t : Trp := { s.trp with present := { s.trp.present with forceLimit := f } }
  let joins := b && !s.trp.present.forceLimit.get k
  have h := s.takeLevel_acts (u := u) t (.forceLimit k) joins hu s.trp.present s.tripIn s.ctrlCommanded
  have trp := s.takeLevel_trp t (.forceLimit k) joins rfl
  have same := s.takeLevel_conditions t (.forceLimit k) joins
  rw [State.view_aside (s := s) rfl rfl rfl rfl] at h
  refine h.step (Act.force _ f ?_) (State.view_aside trp.1.symm trp.2.symm same.tripIn.symm same.commanded.symm)
  cases hj : joins
  · refine .inr fun j hf => ?_
    show s.trp.present.forceLimit.get j = true
    rcases eq_or_ne k j with rfl | ne
    · have hb : b = true := by simpa [f] using hf
      simpa [joins, hb] using hj
    · simpa [f, Table.get_set_other _ _ _ _ ne] using hf
  · exact .inl rfl

/-- R120: LINK_SILENT joins or leaves as the silence count says. -/
theorem State.setLinkSilent_acts (s : State) (hu : u.tripping = true) :
    Acts (s.view { u with silent := true })
      ((s.setLinkSilent (decide (s.lnk.silence = 3))).view { u with silent := false }) := by
  let b := decide (s.lnk.silence = 3)
  let t : Trp := { s.trp with present := { s.trp.present with linkSilent := b } }
  let joins := b && !s.trp.present.linkSilent
  have h := s.takeLevel_acts (u := { u with silent := true }) t .linkSilent joins hu s.trp.present s.tripIn s.ctrlCommanded
  have trp := s.takeLevel_trp t .linkSilent joins rfl
  have same := s.takeLevel_conditions t .linkSilent joins
  rw [State.view_aside (s := s) rfl rfl rfl rfl] at h
  have silence : (s.takeLevel t .linkSilent joins).lnk.silence = s.lnk.silence := same.silence
  refine h.step (Act.silence _ ?_) (Eq.trans ?_ (State.view_aside (u := { u with silent := false })
    trp.1.symm trp.2.symm same.tripIn.symm same.commanded.symm))
  · show (s.takeLevel t .linkSilent joins).lnk.silence ≠ 3 ∨ (joins || s.trp.latch) = true ∨ s.trp.present.linkSilent = true
    rw [silence]
    cases hp : s.trp.present.linkSilent <;> simp [joins, b, hp]
    tauto
  · show View.aside { (s.takeLevel t .linkSilent joins).view { u with silent := true } with silent := false } _
      { s.trp.present with linkSilent := decide ((s.takeLevel t .linkSilent joins).lnk.silence = 3) } _ _ = _
    rw [silence]
    rfl

/-- R118: TRIP_IN takes another level, and EXTERNAL joins or leaves with it. -/
theorem State.setExternal_acts (s : State) (high : Bool) (hu : u.tripping = true) (hr : s.resetting = none)
    (hi : s.tripIn = !high) :
    s.Does u ({ s with tripIn := high }.setExternal (!high)) := by
  let x : State := { s with tripIn := high }
  let t : Trp := { s.trp with present := { s.trp.present with external := !high } }
  let joins := !high && !s.trp.present.external
  have h := x.takeLevel_acts (u := u) t .external joins hu s.trp.present s.tripIn s.ctrlCommanded
  have trp := x.takeLevel_trp t .external joins rfl
  have same := x.takeLevel_conditions t .external joins
  have resetting : (x.takeLevel t .external joins).resetting = none := (x.takeLevel_resetting _ _ _).trans hr
  refine Acts.step h (Act.external _ (!high) ?_ hi ?_) (Eq.trans ?_ (State.view_aside
    trp.1.symm trp.2.symm same.tripIn.symm same.commanded.symm))
  · show (x.takeLevel t .external joins).resetting.isSome = false
    rw [resetting]
    rfl
  · show (!high) = false ∨ (joins || s.trp.latch) = true ∨ s.trp.present.external = true
    cases hp : s.trp.present.external <;> cases high <;> simp [joins, hp]
  · show View.aside _ _ { s.trp.present with external := !high } (!!high) _ = _
    rw [Bool.not_not]
    rfl

/-- R119: CTRL.COMMANDED takes another value, and COMMANDED joins or leaves with it. -/
theorem State.setCommanded_does (s : State) (b : Bool) (hu : u.tripping = true) (hb : s.ctrlCommanded = !b) :
    s.Does u ({ s with ctrlCommanded := b }.setCommanded b) := by
  let x : State := { s with ctrlCommanded := b }
  let t : Trp := { s.trp with present := { s.trp.present with commanded := b } }
  let joins := b && !s.trp.present.commanded
  have h := x.takeLevel_acts (u := u) t .commanded joins hu s.trp.present s.tripIn s.ctrlCommanded
  have trp := x.takeLevel_trp t .commanded joins rfl
  have same := x.takeLevel_conditions t .commanded joins
  refine Acts.step h (Act.command _ b hb ?_) (State.view_aside
    trp.1.symm trp.2.symm same.tripIn.symm same.commanded.symm)
  show b = false ∨ (joins || s.trp.latch) = true ∨ s.trp.present.commanded = true
  cases hp : s.trp.present.commanded <;> cases b <;> simp [joins, hp]

/-- R137: an accepted TRIP_RESET, with no level cause present and the link running. -/
theorem State.tripCleared_does (s : State) (hr : s.lnk.runState ≠ .halted) (hc : s.trp.present.firstCause = none) :
    s.Does u s.tripCleared := by
  have h := s.setTrp_acts (u := u) s.trp.cleared s.trp.latch s.trp.present s.tripIn s.ctrlCommanded
  rw [State.view_aside (s := s) rfl rfl rfl rfl] at h
  refine Acts.step h (Act.clear _ ?_ hc) ?_
  · show (s.setTrp s.trp.cleared).lnk.runState ≠ .halted
    rwa [s.setTrp_frame]
  · unfold State.tripCleared
    rw [s.setTrp_frame s.trp.cleared]
    rfl

theorem State.armChecks_does (s : State) : s.Does u s.armChecks := by
  unfold State.armChecks
  split
  · exact .refl s
  · exact s.setTrp_does _ rfl rfl

theorem State.seqTailOff_does (s : State) (j : Stand) (hu : u.tripping = true) : s.Does u (s.seqTailOff j) := by
  unfold State.seqTailOff
  refine State.Does.trans ?_ (State.setTrp_does _ _ rfl rfl)
  split
  · exact s.detect_does _ _ hu
  · exact .refl s

theorem State.seqHeadOn_does (s : State) (c : Schedule) (windows : Table 7 (Option Window)) (j : Stand)
    (hu : u.tripping = true) : s.Does u (s.seqHeadOn c windows j) := by
  have detects (b : Bool) : s.Does u (if b then s else s.detect (.loadUnexpected j) s.time) := by
    cases b
    · exact s.detect_does _ _ hu
    · exact .refl s
  have feeds (x : State) : x.Does u
      (if !x.trp.armed then x
       else match c.prevOf j with
        | none => x
        | some k =>
          if (x.stand k).bite == .loaded then x.setTrp { x.trp with feed := x.trp.feed.set j (some k) } else x) := by
    split
    · exact .refl x
    · split
      · exact .refl x
      · split
        · exact x.setTrp_does _ rfl rfl
        · exact .refl x
  unfold State.seqHeadOn
  split
  · exact .refl s
  · exact (detects _).trans (feeds _)

/-! ## EVC -/

theorem State.countOne_does (e : Event) (time : Word) (hu : u.tripping = true) (s : State) (n : Fin 8) :
    s.Does u (State.countOne e time s n) := by
  have counts (c : Counter) : s.Does u { s with evc := { s.evc with counters := s.evc.counters.set n c } } := .same rfl
  unfold State.countOne
  dsimp only
  split
  · split
    · split
      · exact counts _
      · exact (counts _).trans (State.noteCounter_does _)
      · exact (counts _).trans (State.detect_does _ _ _ hu)
    · exact counts _
  · exact .refl s

theorem State.raise_does (s : State) (e : Event) (time : Word) (hu : u.tripping = true) : s.Does u (s.raise e time) :=
  State.Does.foldl (State.countOne_does e time hu) _ s

theorem State.raiseTrack_does (s : State) (sub : Subevent) (zone : Option Zone) (stand : Option Stand) (time : Word)
    (hu : u.tripping = true) : s.Does u (s.raiseTrack sub zone stand time) :=
  s.raise_does _ _ hu

theorem State.coilCreated_does (s : State) (coil : Word) : s.Does u (s.coilCreated coil) := by
  unfold State.coilCreated
  split
  · exact .refl s
  · exact .same rfl

/-! ## RPT -/

theorem pageBase_le (p : Fin 16) : 0x03000 ≤ pageBase p := by
  simp only [pageBase]
  omega

theorem State.openPage_does (s : State) (p : Fin 16) : s.Does u (s.openPage p) :=
  (s.putWords_does (pageBase p) _ (.high (pageBase_le p))).trans (.same rfl)

theorem State.search_does (s : State) : s.Does u s.search := by
  unfold State.search
  split
  · exact .refl s
  · exact s.openPage_does _

theorem State.closeCurrent_does (s : State) : s.Does u s.closeCurrent :=
  (s.putWord_does _ _ (.high (pageBase_le _))).trans ((State.notePage_does _).trans (State.search_does _))

/-- R161, R162: a report is written and counted. -/
theorem State.writeReport_acts (s : State) (g : Segment) (a : Assessment) (time : Word) :
    Acts (s.view { u with popped := u.popped + 1 }) ((s.writeReport g a time).view u) := by
  have base := pageBase_le s.rpt.current
  have body (x : State) : x.Does { u with popped := u.popped + 1 }
      (x.putWords (pageBase s.rpt.current + 0x40 * ((s.pageCount s.rpt.current).toNat + 1)) (reportWords g a time)) :=
    x.putWords_does _ _ (.high (by omega))
  have first (x : State) : x.Does { u with popped := u.popped + 1 }
      (if (s.pageCount s.rpt.current).toNat = 0 then x.putWord (pageBase s.rpt.current + 0x10) (natWord g.id.toNat)
       else x) := by
    split
    · exact x.putWord_does _ _ (.high (by omega))
    · exact .refl x
  have count (x : State) (w : Word) : x.Does { u with popped := u.popped + 1 }
      (x.putWord (pageBase s.rpt.current + 0x08) w) :=
    x.putWord_does _ _ (.high (by omega))
  have counted (x : State) : Acts (x.view { u with popped := u.popped + 1 })
      ({ x with rpt := { x.rpt with reported := x.rpt.reported + 1 } }.view u) := by
    refine Acts.step .refl (Act.report _) ?_
    show View.mk { u with popped := u.popped + 1 - 1 } .. = _
    rw [BitVec.add_sub_cancel]
    rfl
  exact Relation.ReflTransGen.trans ((body s).trans ((first _).trans (count _ _))) (counted _)

/-- R165: a report is lost and counted. -/
theorem State.loseReport_acts (s : State) : Acts (s.view { u with popped := u.popped + 1 }) (s.loseReport.view u) := by
  refine Acts.step .refl (Act.lose _) ?_
  show View.mk { u with popped := u.popped + 1 - 1 } .. = _
  rw [BitVec.add_sub_cancel]
  rfl

/-- R160: a removed segment reaches RPT and is counted. -/
theorem State.report_acts (s : State) (g : Segment) (a : Assessment) (endOfCoil : Bool) (time : Word) :
    Acts (s.view { u with popped := u.popped + 1 }) ((s.report g a endOfCoil time).view u) := by
  have opens : s.Does { u with popped := u.popped + 1 } (if s.filling then s else s.search) := by
    split
    · exact .refl s
    · exact s.search_does
  unfold State.report
  refine Relation.ReflTransGen.trans opens ?_
  generalize (if s.filling then s else s.search) = x
  dsimp only
  split
  · refine (x.writeReport_acts g a time).trans ?_
    split
    · exact State.closeCurrent_does _
    · exact .refl
  · exact x.loseReport_acts

end
end Sys2Proof.Machine


namespace Sys2Proof.Machine

/-! ## STU's switch test -/

section
variable {u : Underway}

/-- MI takes 0, or a value within the limit of the active schedule. -/
theorem State.setMi_does (s : State) (mi : Int) (h : ∀ c ∈ s.stu.active, mi.natAbs ≤ c.sched.miMax)
    (h0 : s.stu.active = none → mi = 0 ∨ mi = s.gap.mi) : s.Does u { s with gap := { s.gap with mi := mi } } := by
  refine .act (Act.monitor _ mi ?_)
  show match s.stu.active.map (·.sched) with
    | none => mi = s.gap.mi ∨ mi = 0
    | some c => mi = s.gap.mi ∨ mi.natAbs ≤ c.miMax
  cases ha : s.stu.active with
  | none => exact (h0 ha).symm
  | some c => exact .inr (h c ha)

theorem State.chargeSwitch_does (s : State) (k : Stand) : s.Does u (s.chargeSwitch k) := by
  have later : s.Does u
      (if s.lnk.runState = .halted then s
       else { s with stu := { s.stu with switchCharge := s.stu.switchCharge + 1 } }) := by
    split
    · exact .refl s
    · exact .same rfl
  unfold State.chargeSwitch
  dsimp only
  split
  · exact later
  · next c hc =>
    split
    · exact .same (by simp [State.view, hc])
    · exact later

theorem State.dropFigures_does (s : State) (n : Nat) : s.Does u (s.dropFigures n) := .same rfl

theorem State.completeChange_does (s : State) (p : HeldSchedule) : s.Does u (s.completeChange p) := by
  have drops (x : State) (old : Option HeldSchedule) : x.Does u
      (match old with
       | none => x
       | some o => if x.carried o.sched.serial then x else x.dropFigures o.sched.serial) := by
    split
    · exact .refl x
    · split
      · exact .refl x
      · exact x.dropFigures_does _
  exact (State.Does.act (t := { s with
    stu := { s.stu with
      active := some p
      pending := none
      stands := s.stu.stands.map (fun r => { r with use := .active }) }
    gap := { s.gap with mi := clampAbs p.sched.miMax s.gap.mi } }) (Act.coil _ p.sched)).trans
      ((drops _ _).trans (State.noteCoil_does _))

theorem State.switchStand_does (s : State) (p : HeldSchedule) (k : Stand) : s.Does u (s.switchStand p k) := by
  have mi (x : State) : x.Does u
      (if p.sched.lastStand = some k then { x with gap := { x.gap with mi := 0 } } else x) := by
    split
    · exact x.setMi_does 0 (fun _ _ => Nat.zero_le _) fun _ => .inl rfl
    · exact .refl x
  have last (x : State) : x.Does u (if k = 6 then x.completeChange p else x) := by
    split
    · exact x.completeChange_does p
    · exact .refl x
  have stand (f : StandRec → StandRec) (g : GapRec → GapRec) : s.Does u ((s.modifyStand k f).modifyGap k g) := .same rfl
  exact (stand _ _).trans ((State.chargeSwitch_does _ k).trans ((mi _).trans (last _)))

theorem switchThrough_does (ks : List Stand) (s : State) : s.Does u (switchThrough ks s) := by
  induction ks generalizing s with
  | nil => exact .refl s
  | cons k ks ih =>
    unfold switchThrough
    split
    · exact .refl s
    · split
      · exact ih s
      · split
        · exact (s.switchStand_does _ k).trans (ih _)
        · exact .refl s

theorem State.switchTest_does (s : State) : s.Does u s.switchTest := switchThrough_does _ s

end

/-! ## What a removal leaves of TRK -/

theorem State.chargeSwitch_trk (s : State) (k : Stand) : (s.chargeSwitch k).trk = s.trk := by
  unfold State.chargeSwitch
  dsimp only
  split
  · split <;> rfl
  · split
    · rfl
    · split <;> rfl

theorem State.completeChange_trk (s : State) (p : HeldSchedule) : (s.completeChange p).trk = s.trk := by
  unfold State.completeChange
  dsimp only
  split
  · rfl
  · split <;> rfl

theorem State.switchStand_trk (s : State) (p : HeldSchedule) (k : Stand) : (s.switchStand p k).trk = s.trk := by
  have mi (x : State) :
      (if p.sched.lastStand = some k then { x with gap := { x.gap with mi := 0 } } else x).trk = x.trk := by
    split <;> rfl
  unfold State.switchStand
  extract_lets s1 s2 s3 _ s4
  have h4 : s4.trk = s.trk := (mi s3).trans (s2.chargeSwitch_trk k)
  split
  · exact (s4.completeChange_trk p).trans h4
  · exact h4

theorem switchThrough_trk (ks : List Stand) (s : State) : (switchThrough ks s).trk = s.trk := by
  induction ks generalizing s with
  | nil => rfl
  | cons k ks ih =>
    unfold switchThrough
    split
    · rfl
    · split
      · exact ih s
      · split
        · exact (ih _).trans (s.switchStand_trk _ k)
        · rfl

theorem State.search_trk (s : State) : s.search.trk = s.trk := by
  unfold State.search
  split <;> rfl

theorem State.report_trk (s : State) (g : Segment) (a : Assessment) (e : Bool) (time : Word) :
    (s.report g a e time).trk = s.trk := by
  have opened : (if s.filling then s else s.search).trk = s.trk := by
    split
    · rfl
    · exact s.search_trk
  have written (x : State) : (x.writeReport g a time).trk = x.trk := by
    unfold State.writeReport
    dsimp only
    split <;> rfl
  unfold State.report
  rw [← opened]
  generalize (if s.filling then s else s.search) = x
  dsimp only
  split
  · split
    · exact (State.search_trk _).trans (written x)
    · exact written x
  · rfl

theorem State.monitor_trk (s : State) (g : Segment) (a : Assessment) (kind : Removal) :
    (s.monitor g a kind).trk = s.trk := by
  unfold State.monitor
  dsimp only
  split <;> rfl

theorem State.dropIfLast_trk (s : State) (n : Nat) : (s.dropIfLast n).trk = s.trk := by
  unfold State.dropIfLast
  split <;> rfl

theorem State.idleIfEmpty_segs (s : State) : s.idleIfEmpty.trk.segs = s.trk.segs := by
  unfold State.idleIfEmpty
  split <;> rfl

/-- R68: a removal takes the oldest segment from the table. -/
theorem State.removeOldest_segs (s : State) (kind : Removal) (trip : Bool) (time : Word) :
    (s.removeOldest kind trip time).trk.segs = s.trk.segs.tail := by
  unfold State.removeOldest
  split
  · next h => rw [h]; rfl
  · next g0 rest h =>
    rw [h]
    dsimp only
    rw [State.idleIfEmpty_segs, State.switchTest, switchThrough_trk, State.dropIfLast_trk, State.report_trk,
      (State.raise_kept _ _ _).segs, State.monitor_trk]
    rfl

theorem State.removeMany_segs (kind : Removal) (trip : Bool) (time : Word) (n : Nat) (s : State) :
    (State.removeMany kind trip time n s).trk.segs = s.trk.segs.drop n := by
  induction n generalizing s with
  | zero => rfl
  | succ n ih =>
    rw [State.removeMany, ih, State.removeOldest_segs, List.drop_tail]

/-! ## Removals and the flush -/

section
variable {u : Underway}

theorem State.monitor_does (s : State) (g : Segment) (a : Assessment) (kind : Removal) :
    s.Does u (s.monitor g a kind) := by
  unfold State.monitor
  extract_lets reason record
  split
  · next f h _ _ _ ha =>
    refine (s.setMi_does _ (fun c hc => ?_) fun hn => ?_).trans (.same rfl)
    · obtain rfl : h = c := Option.some.inj (ha.symm.trans hc)
      exact clampAbs_le _ _
    · rw [ha] at hn
      cases hn
  · exact .same rfl

theorem State.dropIfLast_does (s : State) (n : Nat) : s.Does u (s.dropIfLast n) := by
  unfold State.dropIfLast
  split
  · exact .refl s
  · exact s.dropFigures_does n

theorem State.idleIfEmpty_does (s : State) : s.Does u s.idleIfEmpty := by
  unfold State.idleIfEmpty
  split
  · next h =>
    simp only [Bool.and_eq_true, List.isEmpty_iff, Option.isNone_iff_eq_none] at h
    refine .act (Act.empty _ ?_ ?_)
    · show s.trk.segs.map (·.id) = []
      rw [h.1.1]
      rfl
    · show s.trk.creation.isSome = false
      rw [h.1.2]
      rfl
  · exact .refl s

/-- R68, R108: the oldest segment is popped and, in the end, reported. -/
theorem State.removeOldest_does (s : State) (kind : Removal) (trip : Bool) (time : Word) (hu : u.tripping = true) :
    s.Does u (s.removeOldest kind trip time) := by
  unfold State.removeOldest
  split
  · exact .refl s
  · next g0 rest h =>
    have popped : Acts (s.view u)
        ({ s with trk := { s.trk with segs := rest } }.view { u with popped := u.popped + 1 }) :=
      .single (Act.pop _ g0.id (rest.map (·.id)) (by show s.trk.segs.map (·.id) = _; rw [h]; rfl))
    have handed (x : State) (g : Segment) (a : Assessment) (e : Event) (last : Bool) (n : Nat) :
        Acts (x.view { u with popped := u.popped + 1 })
          (((((x.monitor g a kind).raise e time).report g a last time).dropIfLast n).switchTest.idleIfEmpty.view u) := by
      refine Relation.ReflTransGen.trans ((x.monitor_does g a kind).trans (State.raise_does _ e time hu)) ?_
      refine (State.report_acts _ g a last time).trans ?_
      exact (State.dropIfLast_does _ n).trans ((State.switchTest_does _).trans (State.idleIfEmpty_does _))
    exact popped.trans (handed _ _ _ _ _ _)

theorem State.removeMany_does (kind : Removal) (trip : Bool) (time : Word) (n : Nat) (s : State)
    (hu : u.tripping = true) : s.Does u (State.removeMany kind trip time n s) := by
  induction n generalizing s with
  | zero => exact .refl s
  | succ n ih => exact (s.removeOldest_does kind trip time hu).trans (ih _)

/-- R76: tracking enters LOST and its table is emptied. -/
theorem State.enterLost_does (s : State) (trip : Bool) (time : Word) (hu : u.tripping = true) (hf : u.flushing = false) :
    s.Does u (s.enterLost trip time) := by
  unfold State.enterLost
  split
  · exact .refl s
  · extract_lets n _ x y
    have lost : Acts (s.view u) (x.view { u with flushing := true }) := .single (Act.enterLost _)
    have removed : x.Does { u with flushing := true } (State.removeMany .flush trip time n x) :=
      State.removeMany_does _ _ _ _ _ hu
    have emptied : y.trk.segs = [] := by
      show (State.removeMany .flush trip time n x).trk.segs = []
      rw [State.removeMany_segs]
      exact List.drop_length
    have cleared : Acts ((State.removeMany .flush trip time n x).view { u with flushing := true }) (y.view u) := by
      refine (Relation.ReflTransGen.single (Act.stopCreating _)).tail ?_
      have a := Act.leaveFlush (y.view { u with flushing := true }) (by show y.trk.segs.map _ = []; rw [emptied]; rfl) rfl
      have e : ({ y.view { u with flushing := true } with flushing := false } : View) = y.view u := by
        rw [← hf]
        rfl
      rw [e] at a
      exact a
    refine lost.trans (Relation.ReflTransGen.trans removed (cleared.trans ?_))
    split
    · exact .refl
    · exact y.switchTest_does

/-- R76: the flush a trip owes is made. -/
theorem State.tripFlushNow_does (s : State) (time : Word) (hu : u.tripping = true) (hf : u.flushing = false) :
    s.Does u (s.tripFlushNow time) := by
  unfold State.tripFlushNow
  split
  · exact (s.enterLost_does true time hu hf).trans (.act (Act.flushed _))
  · exact .refl s

/-- R76: after the flush none is owed. -/
theorem State.tripFlushNow_owes (s : State) (time : Word) : (s.tripFlushNow time).trk.tripFlush = false := by
  unfold State.tripFlushNow
  split
  · rfl
  · next h => exact Bool.eq_false_iff.2 h

/-- What happens between two moments of a trip: it may latch; outside a computation its flush is made at once. -/
theorem State.settleTrip_acts {s t : State} (h : s.Does { u with tripping := true } t) (hu : u.tripping = false)
    (hf : u.flushing = false) : s.Does u t.settleTrip := by
  have begun : Acts (s.view u) (s.view { u with tripping := true }) := .single (Act.trips _)
  have back (x : State) : ({ x.view { u with tripping := true } with tripping := false } : View) = x.view u := by
    rw [← hu]
    rfl
  refine begun.trans (Relation.ReflTransGen.trans h ?_)
  unfold State.settleTrip
  split
  · next c hc => exact Acts.step .refl (Act.settled _ (.inl (by show t.comp.isSome = true; rw [hc]; rfl))) (back t)
  · exact Acts.step (t.tripFlushNow_does t.time rfl hf) (Act.settled _ (.inr (t.tripFlushNow_owes t.time))) (back _)

end

end Sys2Proof.Machine


namespace Sys2Proof.Machine

/-! ## The status area (R183, 11.5) -/

theorem headerWords_length (s : State) (n : Word) : (headerWords s n).length = 32 := by simp [headerWords]

theorem statusWords_length (s : State) (n : Word) : (statusWords s n).length = 564 := by
  have gaps : (s.gap.stands.list.flatMap gapWords).length = 112 := by
    simp [List.length_flatMap, gapWords, s.gap.stands.len]
  have counters : (s.evc.counters.list.flatMap counterWords).length = 40 := by
    simp [List.length_flatMap, counterWords, s.evc.counters.len]
  have stands : (allStands.flatMap (standWords s)).length = 28 := rfl
  have last : (assessmentWords s.gap.last).length = 12 := by cases s.gap.last <;> simp [assessmentWords]
  simp [statusWords, headerWords, queueWords, windowWords, logWords, gaps, counters, stands, last]

theorem statusWords_eq (s : State) (n : Word) : ∃ ws, statusWords s n = n :: n :: ws ∧ ws.length = 562 := by
  refine ⟨(statusWords s n).drop 2, rfl, ?_⟩
  rw [List.length_drop, statusWords_length]

section
variable {u : Underway}

theorem State.statusWrite_does (s : State) : s.Does u s.statusWrite := by
  obtain ⟨ws, he, hl⟩ := statusWords_eq s (s.hif.statusNumber + 1)
  unfold State.statusWrite
  dsimp only
  rw [he]
  exact .act (Act.status _ _ ws hl)

theorem State.haltedStatus_does (s : State) : s.Does u s.haltedStatus := by
  unfold State.haltedStatus
  split
  · exact s.statusWrite_does
  · exact .refl s

theorem State.haltedStatus_ord (s : State) : s.haltedStatus.ord = s.ord := by
  unfold State.haltedStatus
  split <;> rfl

end

/-! ## ORD -/

theorem State.takeHead_nil {s : State} (h : s.ord.queue = []) : s.takeHead = s := by simp [State.takeHead, h]

section
variable {u : Underway}

/-- R178: ORD takes the head of its queue. -/
theorem State.takeHead_acts {s : State} {i : Fin 32} {rest : List (Fin 32)} (hq : s.ord.queue = i :: rest)
    (ht : s.ord.taken = none) {n : Nat} (hn : u.taking = some n) :
    Acts (s.view u) (s.takeHead.view { u with taking := some (n + 1) }) := by
  unfold State.takeHead
  rw [hq]
  dsimp only
  refine (Relation.ReflTransGen.single (Act.take (s.view u) i rest n hq ?_ hn)).tail
    (Act.write _ (slotBase i + 0x40) ((List.replicate 16 0).flatMap wordBytes) (.inSlot i ?_ ?_))
  · show s.ord.taken.map (·.slot) = none
    rw [ht]
    rfl
  · omega
  · show slotBase i + 0x40 + 64 ≤ _
    omega

theorem State.takeHead_taken {s : State} {i : Fin 32} {rest : List (Fin 32)} (hq : s.ord.queue = i :: rest) :
    ∃ t, s.takeHead.ord.taken = some t := by
  unfold State.takeHead
  rw [hq]
  exact ⟨_, rfl⟩

theorem slotDone_ne : slotDone ≠ slotPosted ∧ slotDone ≠ slotTaken := by decide

theorem slotRefused_ne : slotRefused ≠ slotPosted ∧ slotRefused ≠ slotTaken := by decide

/-- R179: the TAKEN order is finished. -/
theorem State.finish_does (s : State) (o : OrderOutcome) (rs : List Word) (h : u.taking ≠ none) :
    s.Does u (s.finish o rs) := by
  unfold State.finish
  split
  · exact .refl s
  · next t ht =>
    extract_lets base x y z
    have outcome : s.Does u x := s.putWords_does _ _ (.inSlot t.slot (by omega) (by
      simp only [List.length_cons, padWords_length]; omega))
    have state : Acts (x.view u) ({ y.view u with taken := none }) := by
      refine .single (Act.finish _ t.slot _ ?_ ?_ h)
      · show s.ord.taken.map (·.slot) = some t.slot
        rw [ht]
        rfl
      · split
        · exact slotDone_ne
        · exact slotRefused_ne
    have noted : Acts ({ y.view u with taken := none }) ({ z.view u with taken := none }) :=
      .single (Act.news _ { y.news with order := true } rfl)
    exact Relation.ReflTransGen.trans outcome (state.trans noted)

theorem State.finish_taken (s : State) (o : OrderOutcome) (rs : List Word) : (s.finish o rs).ord.taken = none := by
  unfold State.finish
  split
  · next h => exact h
  · rfl

/-- R178, R179: ORD takes orders until it holds one, or its queue is empty, or it has taken all that can wait. -/
theorem settleOrders_acts (k : Nat) (s : State) (n : Nat) (ht : s.ord.taken = none) (hu : u.taking = none)
    (hk : 33 ≤ n + k) : Acts (s.view { u with taking := some n }) ((settleOrders k s).view u) := by
  have back (x : State) (m : Option Nat) : ({ x.view { u with taking := m } with taking := none } : View) = x.view u := by
    rw [← hu]
    rfl
  induction k generalizing s n with
  | zero => exact Acts.step .refl (Act.ordered _ n rfl (.inr (.inr (by omega)))) (back s _)
  | succ k ih =>
    unfold settleOrders
    dsimp only
    cases hq : s.ord.queue with
    | nil =>
      rw [State.takeHead_nil hq, State.haltedStatus_ord, ht]
      refine Acts.step s.haltedStatus_does (Act.ordered _ n rfl (.inr (.inl ?_))) (back _ _)
      show s.haltedStatus.ord.queue = []
      rw [State.haltedStatus_ord, hq]
    | cons i rest =>
      have taken : Acts (s.view { u with taking := some n }) (s.takeHead.haltedStatus.view { u with taking := some (n + 1) }) :=
        (State.takeHead_acts (u := { u with taking := some n }) hq ht rfl).trans s.takeHead.haltedStatus_does
      obtain ⟨t, holds⟩ := State.takeHead_taken hq
      rw [← State.haltedStatus_ord] at holds
      rw [holds]
      dsimp only
      refine taken.trans ?_
      split
      · refine Acts.step .refl (Act.ordered _ (n + 1) rfl (.inl ?_)) (back _ _)
        show s.takeHead.haltedStatus.ord.taken.map (·.slot) ≠ none
        rw [holds]
        exact nofun
      · exact Relation.ReflTransGen.trans (State.finish_does _ _ _ nofun) (ih _ (n + 1) (State.finish_taken _ _ _) (by omega))

theorem State.complete_acts (s : State) (o : OrderOutcome) (rs : List Word) (n : Nat) (hu : u.taking = none) :
    Acts (s.view { u with taking := some n }) ((s.complete o rs).view u) :=
  Relation.ReflTransGen.trans (s.finish_does o rs nofun) (settleOrders_acts 33 _ n (s.finish_taken o rs) hu (by omega))

/-- R179: an order completes. -/
theorem State.complete_does (s : State) (o : OrderOutcome) (rs : List Word) (hu : u.taking = none) :
    s.Does u (s.complete o rs) :=
  Relation.ReflTransGen.trans (.single (Act.orders (s.view u) hu)) (s.complete_acts o rs 0 hu)

theorem State.completeWith_does (r : State × OrderOutcome × List Word) (s : State) (h : s.Does u r.1)
    (hu : u.taking = none) : s.Does u (State.completeWith r) :=
  h.trans (r.1.complete_does _ _ hu)

/-- R177, R178: an accepted POSTED write. -/
theorem State.post_does (s : State) (i : Fin 32) (hr : s.resetting = none) (he : s.slotState i = slotEmpty)
    (hu : u.taking = none) : s.Does u ((s.putWord (slotBase i) slotPosted).post i) := by
  let x : State := { s.putWord (slotBase i) slotPosted with ord := { s.ord with queue := s.ord.queue ++ [i] } }
  have posted : Acts (s.view u) (x.view { u with taking := some 0 }) :=
    (Relation.ReflTransGen.single (Act.orders (s.view u) hu)).tail
      (Act.post _ i (by show s.resetting.isSome = false; rw [hr]; rfl) he rfl)
  have back (y : State) (m : Option Nat) : ({ y.view { u with taking := m } with taking := none } : View) = y.view u := by
    rw [← hu]
    rfl
  have holds (y : State) (n : Nat) (h : y.ord.taken ≠ none) :
      Acts (y.view { u with taking := some n }) (y.view u) := by
    refine Acts.step .refl (Act.ordered _ n rfl (.inl ?_)) (back y _)
    show y.ord.taken.map (·.slot) ≠ none
    rwa [Ne, Option.map_eq_none_iff]
  unfold State.post
  refine posted.trans ?_
  change Acts _ (State.view (match x.ord.taken with
    | some _ => x
    | none =>
      match x.takeHead.ord.taken with
      | none => x.takeHead
      | some t =>
        match t.kind.rejected with
        | none => x.takeHead
        | some r => x.takeHead.complete r.1 r.2) u)
  split
  · next t ht => exact holds x 0 (by rw [ht]; exact nofun)
  · next ht =>
    obtain ⟨j, rest, hq⟩ : ∃ j rest, x.ord.queue = j :: rest := List.exists_cons_of_ne_nil (by simp [x])
    obtain ⟨t, taken⟩ := State.takeHead_taken hq
    refine (State.takeHead_acts (u := { u with taking := some 0 }) hq ht rfl).trans ?_
    rw [taken]
    dsimp only
    split
    · exact holds _ _ (by rw [taken]; exact nofun)
    · exact State.complete_acts _ _ _ _ hu

theorem State.setPhase_does (s : State) (p : Phase) : s.Does u (s.setPhase p) :=
  .same (by simp [State.view, State.setPhase, Function.comp_def])

end

end Sys2Proof.Machine


namespace Sys2Proof.Machine

/-! ## Verdicts -/

section
variable {u : Underway}

theorem State.captureVerdict_does (s : State) (a : Byte) (v : Verdict) (number : Half) (offset : Nat) :
    s.Does u (s.captureVerdict a v number offset) := by
  unfold State.captureVerdict
  split
  · exact (s.putWords_does _ _ (.low (by simp [armWordAt]))).trans
      ((State.putWord_does _ _ _ (.low (by simp [armWordAt]))).trans (State.noteCapture_does _))
  · exact .refl s

theorem State.afterVerdict_does (s : State) (node : Option Node) (v : Verdict) (number : Half) (offset : Nat)
    (hu : u.tripping = true) : s.Does u (s.afterVerdict node v number offset) := by
  unfold State.afterVerdict
  split
  · exact .refl s
  · refine State.Does.trans ?_ (State.raise_does _ _ _ hu)
    split
    · exact .refl s
    · exact s.captureVerdict_does _ _ _ _

theorem State.missingVerdicts_does (s : State) (c : Cycle) (hu : u.tripping = true) : s.Does u (s.missingVerdicts c) :=
  State.Does.foldl (fun x n => by
    split
    · exact x.afterVerdict_does _ _ _ _ hu
    · exact .refl x) _ s

/-! ## The link starts and stops -/

theorem State.beginCycle_does (s : State) (h : s.lnk.runState ≠ .halted) : s.Does u s.beginCycle :=
  .act (Act.beginCycle _ h)

theorem State.endCycle_does (s : State) : s.Does u s.endCycle := by
  unfold State.endCycle
  split
  · exact .refl s
  · exact .act (Act.endCycle _)

theorem State.linkStart_does (s : State) (nodes : List Node) (timing : Option Timing) (warn : Nat)
    (ht : s.ord.taken ≠ none) (hr : s.lnk.runState = .halted) (hu : u.silent = false)
    (hw : warn = s.lnk.warn ∨ 1 ≤ warn ∧ warn ≤ 127) : s.Does u (s.linkStart nodes timing warn) := by
  have notes (b : Bool) (x : State) : x.Does u (if b then x.noteNode else x) := by
    split
    · exact x.noteNode_does
    · exact .refl x
  have notes_lnk (b : Bool) (x : State) : (if b then x.noteNode else x).lnk = x.lnk := by
    split <;> rfl
  unfold State.linkStart
  extract_lets notify _ x y
  have started : s.Does u x := .act (Act.linkStart _ nodes warn (by
    show s.ord.taken.map (·.slot) ≠ none
    rwa [Ne, Option.map_eq_none_iff]) hr hu hw)
  refine started.trans ((notes notify x).trans (State.beginCycle_does _ ?_))
  rw [notes_lnk]
  exact nofun

/-- R43: the link stops. -/
theorem State.linkStop_does (s : State) (ht : u.tripping = false) (hw : u.working = false) (hf : u.flushing = false) :
    s.Does u s.linkStop := by
  let x := s.detect .halt s.time
  let y : State := { x with
    lnk := { x.lnk with runState := .halted, cycle := none, waiting := [], silence := 0 }
    comp := x.comp.map (fun (c : Computation) => { c with late := true }) }
  let p : Present := { x.trp.present with linkSilent := false, forceLimit := Table.fill 7 false }
  refine State.settleTrip_acts (t := y.linkCausesLeave) ?_ ht hf
  have detected : s.Does { u with tripping := true } x := s.detect_does _ _ rfl
  have latched : x.trp.latch = true := (s.detectFrom_trp s.trp .halt s.time rfl).1
  have stopped : Acts (x.view { u with tripping := true })
      ((y.view { u with tripping := true }).aside y.trp.latch p y.tripIn y.ctrlCommanded) := by
    refine Acts.step .refl (Act.halt _ latched hw) ?_
    simp [State.view, View.aside, y, p]
  have recorded := y.setTrp_acts (u := { u with tripping := true }) { y.trp with present := p } y.trp.latch p y.tripIn
    y.ctrlCommanded
  have trp := y.setTrp_trp { y.trp with present := p }
  have same := y.setTrp_conditions { y.trp with present := p }
  rw [State.view_aside (s := y.setTrp { y.trp with present := p }) (by rw [trp]) (by rw [trp]) same.tripIn.symm
    same.commanded.symm] at recorded
  exact Relation.ReflTransGen.trans detected (stopped.trans recorded)

/-- R40 to R43: a RUN_STATE order is applied. -/
theorem State.applyRunState_does (s : State) (t : Target) (ht : s.ord.taken ≠ none) (h : u = Underway.rest) :
    s.Does u (s.applyRunState t).1 := by
  subst h
  unfold State.applyRunState
  split
  · exact .refl s
  · exact s.linkStop_does rfl rfl rfl
  · exact .refl s
  · next hr =>
    split
    · exact .refl s
    · exact s.linkStart_does _ _ _ ht hr rfl (.inl rfl)
  · exact .refl s
  · next hr => exact .act (Act.ready _ hr)
  · exact .refl s
  · next hr =>
    split
    · exact .refl s
    · next hl =>
      split
      · exact .refl s
      · next ha =>
        refine .act (Act.run _ hr (Bool.eq_false_iff.2 hl) ?_)
        show (s.stu.active.map (·.sched)).isSome = true
        rw [Option.isSome_map]
        exact Option.isSome_iff_ne_none.2 (by simpa using ha)
  · exact .refl s

theorem State.deferredRunState_does (s : State) : s.Does .rest s.deferredRunState := by
  unfold State.deferredRunState
  split
  · exact .refl s
  · next t ht =>
    split
    · next target _ =>
      exact (s.applyRunState_does target (by rw [ht]; exact nofun) rfl).trans (State.complete_does _ _ _ rfl)
    · exact .refl s

theorem State.cycleStartEvent_does (s : State) : s.Does .rest s.cycleStartEvent := by
  unfold State.cycleStartEvent
  refine (s.endCycle_does.trans (State.deferredRunState_does _)).trans ?_
  dsimp only
  split
  · exact .refl _
  · next h => exact State.beginCycle_does _ h

/-! ## Health (R47 to R54) -/

theorem gradedHealth_ok {warn errors : Nat} {n : Node} (he : errors ≤ 255) (hh : n.health = gradedHealth warn errors)
    (hn : n.errors = errors) (hc : n.clean = 0) : Safety.NodeOk warn n := by
  unfold gradedHealth at hh
  refine ⟨hn ▸ he, by rw [hc]; exact Nat.zero_lt_succ _, ?_⟩
  rw [hh, hn, hc]
  split_ifs with h1 h2
  · exact ⟨h1, rfl⟩
  · exact ⟨by omega, h2, rfl⟩
  · exact ⟨by omega, rfl⟩

/-- A node in use takes the health its new error count gives, or becomes EXCLUDED. -/
theorem healthStep_used_ok {warn errors : Nat} {good : Bool} {health : Health} {m : Node}
    (he : errors ≤ 255)
    (e : (m.health, m.errors, m.clean) = healthStep warn health errors 0 good)
    (hx : health ≠ .excluded) (hj : health ≠ .rejoining) : Safety.NodeOk warn m := by
  have graded : healthStep warn health errors 0 good =
      if good then (gradedHealth warn (errors - 1), errors - 1, 0)
      else if errors + 8 ≤ 255 then (gradedHealth warn (errors + 8), errors + 8, 0) else (.excluded, 255, 0) := by
    cases health
    case excluded => exact absurd rfl hx
    case rejoining => exact absurd rfl hj
    all_goals rfl
  rw [graded] at e
  split_ifs at e with h1 h2
  · obtain ⟨hh, hn, hc⟩ : m.health = _ ∧ m.errors = _ ∧ m.clean = _ := by simpa using e
    exact gradedHealth_ok (by omega) hh hn hc
  · obtain ⟨hh, hn, hc⟩ : m.health = _ ∧ m.errors = _ ∧ m.clean = _ := by simpa using e
    exact gradedHealth_ok h2 hh hn hc
  · obtain ⟨hh, hn, hc⟩ : m.health = _ ∧ m.errors = _ ∧ m.clean = _ := by simpa using e
    refine ⟨by omega, by rw [hc]; exact Nat.zero_lt_succ _, ?_⟩
    rw [hh]
    exact ⟨hn, hc⟩

/-- A REJOINING node stays so, or becomes ACTIVE with its last clean cycle. -/
theorem healthStep_rejoining_ok {warn clean : Nat} {good : Bool} {m : Node} (lo : 1 ≤ warn) (hc : clean < Config.cleanCycles)
    (h : (m.health, m.errors, m.clean) = healthStep warn .rejoining 255 clean good) : Safety.NodeOk warn m := by
  simp only [healthStep] at h
  split_ifs at h with h1 h2
  · obtain ⟨hh, hn, hm⟩ : m.health = _ ∧ m.errors = _ ∧ m.clean = _ := by simpa using h
    refine ⟨by omega, by rw [hm]; exact Nat.zero_lt_succ _, ?_⟩
    rw [hh, hn]
    exact ⟨lo, hm⟩
  · obtain ⟨hh, hn, hm⟩ : m.health = _ ∧ m.errors = _ ∧ m.clean = _ := by simpa using h
    refine ⟨by omega, by omega, ?_⟩
    rw [hh]
    exact hn
  · obtain ⟨hh, hn, hm⟩ : m.health = _ ∧ m.errors = _ ∧ m.clean = _ := by simpa using h
    refine ⟨by omega, by rw [hm]; exact Nat.zero_lt_succ _, ?_⟩
    rw [hh]
    exact hn

/-- R47 to R49, R53: a node's health, E and clean-cycle count agree after a compute start when they did before. -/
theorem Node.atComputeStart_ok {warn : Nat} (n : Node) (number : Half) (cs : List Charge) (lo : 1 ≤ warn)
    (h : Safety.NodeOk warn n) : Safety.NodeOk warn (n.atComputeStart warn number cs) := by
  obtain ⟨he, hc, hh⟩ := h
  have e : ((n.atComputeStart warn number cs).health, (n.atComputeStart warn number cs).errors,
      (n.atComputeStart warn number cs).clean) = healthStep warn n.health n.errors n.clean (goodReply cs).isSome := rfl
  cases hn : n.health <;> rw [hn] at hh e <;> dsimp only at hh
  case active =>
    rw [hh.2] at e
    exact healthStep_used_ok he e nofun nofun
  case warned =>
    rw [hh.2.2] at e
    exact healthStep_used_ok he e nofun nofun
  case degraded =>
    rw [hh.2] at e
    exact healthStep_used_ok he e nofun nofun
  case excluded =>
    simp only [healthStep, Prod.mk.injEq] at e
    exact ⟨by omega, by omega, by rw [e.1]; exact ⟨e.2.1.trans hh.1, e.2.2.trans hh.2⟩⟩
  case rejoining => rw [hh] at e; exact healthStep_rejoining_ok lo hc e

theorem State.healthEvent_does (s : State) (old new : Node) (hu : u.tripping = true) : s.Does u (s.healthEvent old new) := by
  unfold State.healthEvent
  split
  · split
    · exact s.raise_does _ _ hu
    · exact s.raise_does _ _ hu
    · exact .refl s
  · exact .refl s

/-- R27, R47 to R54: LNK's work of a compute start; the silence count is then ahead of LINK_SILENT. -/
theorem State.linkCompute_acts (s : State) (c : Cycle) (hu : u.tripping = true) (hw : u.working = true) :
    Acts (s.view u) ((s.linkCompute c).view { u with silent := true }) := by
  have notes (b : Bool) (x : State) : x.Does { u with silent := true } (if b then x.noteNode else x) := by
    split
    · exact x.noteNode_does
    · exact .refl x
  unfold State.linkCompute
  extract_lets x old new silence _ y changed z
  have counted : Acts (x.view u) (y.view { u with silent := true }) := by
    refine (Relation.ReflTransGen.single (Act.nodes _ (fun n => n.atComputeStart x.lnk.warn c.number (c.chargesOf n))
      fun n lo _ ok => n.atComputeStart_ok _ _ lo ok)).tail ?_
    exact Act.count _ silence hw
  refine Relation.ReflTransGen.trans (s.missingVerdicts_does c hu) (counted.trans ?_)
  have events (v : State) (p : Node × Node) : v.Does { u with silent := true } (v.healthEvent p.1 p.2) :=
    v.healthEvent_does _ _ hu
  exact (notes changed y).trans (State.Does.foldl events _ z)

end

end Sys2Proof.Machine


namespace Sys2Proof.Machine

/-! ## Tracking -/

/-- A change of the segments that keeps their ids. -/
theorem changeFirst_ids (p : Segment → Bool) (f : Segment → Segment) (hf : ∀ g, (f g).id = g.id) (gs : List Segment) :
    (changeFirst p f gs).map (·.id) = gs.map (·.id) := by
  induction gs with
  | nil => rfl
  | cons g gs ih =>
    unfold changeFirst
    split
    · simp [hf]
    · simp [ih]

/-- R104: a fresh reading goes to the oldest segment when that has crossed its whole path. -/
def readOldest (fresh : Bool) (h : Nat) : List Segment → List Segment
  | [] => []
  | g :: gs => if fresh && g.crossedAll then g.read h :: gs else g :: gs

theorem readOldest_ids (fresh : Bool) (h : Nat) (gs : List Segment) :
    (readOldest fresh h gs).map (·.id) = gs.map (·.id) := by
  cases gs with
  | nil => rfl
  | cons g gs =>
    have read : (g.read h).id = g.id := by
      unfold Segment.read
      split <;> rfl
    rw [readOldest]
    split
    · simp [read]
    · rfl

section
variable {u : Underway}

/-- A change of TRK that a view does not hold. -/
theorem State.withTrk_does (s : State) (f : Trk → Trk) (h : (s.withTrk f).view u = s.view u) : s.Does u (s.withTrk f) :=
  .same h

theorem State.setQ_does (s : State) (k : Stand) (v : Nat) : s.Does u (s.setQ k v) := .same rfl

theorem State.degrade_does (s : State) : s.Does u s.degrade := by
  unfold State.degrade
  split
  · next h => exact .act (Act.degrade _ h)
  · exact .refl s

theorem State.chargeCrossings_does (s : State) (n : Nat) : s.Does u (s.chargeCrossings n) :=
  .same (by simp [State.view, State.chargeCrossings])

theorem State.changeSegs_does (s : State) (f : List Segment → List Segment)
    (hf : (f s.trk.segs).map (·.id) = s.trk.segs.map (·.id)) :
    s.Does u (s.withTrk (fun t => { t with segs := f t.segs })) :=
  .same (by simp [State.view, hf])

section
variable (ht : u.tripping = true)
include ht

theorem State.slip_does (s : State) (stand : Option Stand) (zone : Option Zone) : s.Does u (s.slip stand zone) :=
  (s.raiseTrack_does _ _ _ _ ht).trans (State.degrade_does _)

theorem State.closeInto_does (s : State) (j : Stand) : s.Does u (s.closeInto j) :=
  State.Does.foldl (fun x k => by
    split
    · exact .refl x
    · split
      · dsimp only
        split
        · exact (x.withTrk_does _ rfl).trans (State.raiseTrack_does _ _ _ _ _ ht)
        · exact x.withTrk_does _ rfl
      · exact .refl x) _ s

theorem State.loseHead_does (s : State) (k : Stand) : s.Does u (s.loseHead k) := by
  unfold State.loseHead
  split
  · exact (s.withTrk_does _ rfl).trans (State.detect_does _ _ _ ht)
  · exact .refl s

theorem State.forceCross_does (s : State) (c : Schedule) (k : Stand) : s.Does u (s.forceCross c k) := by
  have crossed : (s.trk.segs.map (fun g => if g.reaches c k then g.cross k else g)).map (·.id) = s.trk.segs.map (·.id) := by
    rw [List.map_map]
    refine List.map_congr_left fun g _ => ?_
    show (if g.reaches c k then g.cross k else g).id = g.id
    split <;> rfl
  exact (s.changeSegs_does (fun gs => gs.map (fun g => if g.reaches c k then g.cross k else g)) crossed).trans
    ((State.chargeCrossings_does _ _).trans
      ((State.Does.foldl (fun x (g : Segment) => x.slip_does ht (some k) (some g.zone)) _ _).trans (State.setQ_does _ _ _)))

theorem State.advanceWindow_does (sn : Table 7 StandSnap) (s : State) (k : Stand) :
    s.Does u (State.advanceWindow sn s k) := by
  unfold State.advanceWindow
  split
  · exact .refl s
  · dsimp only
    split
    · exact (s.withTrk_does _ rfl).trans (State.detect_does _ _ _ ht)
    · exact s.withTrk_does _ rfl

theorem State.startBar_does (s : State) (c : Schedule) (k : Stand) (reuse : Bool) : s.Does u (s.startBar c k reuse) := by
  have starts : s.Does u
      (if s.trk.state = .lost ∧ s.trk.speedLost then s
       else s.withTrk (fun t => { t with
         state := .normal
         creation := some ⟨c.coilId, c.serial, c.pathLen, reuse, 0, 0, 0, 0⟩ })) := by
    split
    · exact .refl s
    · exact .act (Act.startBar _)
  have raises (x : State) : x.Does u (if reuse then x.raiseTrack .reused none (some k) x.time else x) := by
    split
    · exact x.raiseTrack_does _ _ _ _ ht
    · exact .refl x
  exact starts.trans (raises _)

omit ht in
theorem State.openWindow_does (s : State) (c : Schedule) (e : StandEntry) (k : Stand) : s.Does u (s.openWindow c e k) := by
  unfold State.openWindow
  split
  · exact .refl s
  · split
    · exact s.withTrk_does _ rfl
    · exact .refl s

theorem State.removeCrossed_does (n : Nat) (s : State) : s.Does u (State.removeCrossed n s) := by
  induction n generalizing s with
  | zero => exact .refl s
  | succ n ih =>
    unfold State.removeCrossed
    split
    · exact .refl s
    · split
      · exact (s.chargeCrossings_does 1).trans ((State.removeOldest_does _ _ _ _ ht).trans (ih _))
      · exact .refl s

theorem State.stripDrop_does (s : State) : s.Does u s.stripDrop :=
  (State.removeCrossed_does ht _ s).trans (State.withTrk_does _ _ rfl)

theorem State.gaugeCross_does (s : State) (thr : Nat) : s.Does u (s.gaugeCross thr) := by
  unfold State.gaugeCross
  dsimp only
  split
  · exact .refl s
  · split
    · exact (s.withTrk_does _ rfl).trans (State.slip_does ht _ _ _)
    · split
      · have removed (q : Nat) := ((s.withTrk_does (u := u) (fun t => { t with qGauge := q }) rfl).trans
          (State.chargeCrossings_does _ 1)).trans (State.removeOldest_does _ .gauge false s.time ht)
        split
        · exact (removed _).trans (State.slip_does ht _ _ _)
        · exact removed _
      · exact (s.withTrk_does _ rfl).trans (State.slip_does ht _ _ _)

theorem State.countGauge_does (s : State) (sn : Table 7 StandSnap) : s.Does u (s.countGauge sn) := by
  have degrades (b : Bool) (x : State) : x.Does u (if b then x.degrade else x) := by
    split
    · exact x.degrade_does
    · exact .refl x
  have gathers (x : State) (q : Trk → Nat) (h : Nat) (fresh : Bool) : x.Does u (x.withTrk (fun t => { t with
      qGauge := q t
      segs := readOldest fresh h t.segs })) :=
    (x.changeSegs_does _ (readOldest_ids fresh h _)).trans (.same rfl)
  have crosses (x : State) : x.Does u
      (match (sn.get 6).sched with
       | none => x
       | some c => x.gaugeCross c.threshold) := by
    split
    · exact .refl x
    · exact x.gaugeCross_does ht _
  unfold State.countGauge
  split
  · exact .refl s
  · next n _ =>
    split
    · exact .refl s
    · next h _ =>
      split
      · exact (degrades _ s).trans ((gathers _ _ h (n.mark == .fresh)).trans (crosses _))
      · exact .refl s

section
variable (hf : u.flushing = false)
include hf

theorem State.create_does (s : State) (k : Stand) (c : Schedule) (tail : Bool) : s.Does u (s.create k c tail) := by
  unfold State.create
  split
  · exact .refl s
  · next r hr =>
    split
    · exact s.enterLost_does _ _ ht hf
    · next hn =>
      extract_lets n volume zone g x y
      have created : s.Does u x := by
        refine Acts.step .refl (Act.create _ ?_ ?_ hf) ?_
        · show (s.trk.segs.map (·.id)).length < Config.tableSize
          rw [List.length_map]
          omega
        · show s.trk.creation.isSome = true
          rw [hr]
          rfl
        · simp [State.view, x, g, hr, Creation.segment]
      exact created.trans ((State.chargeCrossings_does _ _).trans ((State.coilCreated_does _ _).trans
        (State.raiseTrack_does _ _ _ _ _ ht)))

theorem State.closeCreation_does (s : State) (c : Schedule) (k : Stand) : s.Does u (s.closeCreation c k) := by
  have creates : s.Does u (if s.trk.creation.any (fun r => decide (1 ≤ r.count)) then s.create k c true else s) := by
    split
    · exact s.create_does ht hf _ _ _
    · exact .refl s
  exact creates.trans ((State.Does.act (Act.stopCreating _)).trans (State.setQ_does _ _ _))

theorem State.trackTailOff_does (s : State) (p : StandSnap) (k : Stand) : s.Does u (s.trackTailOff p k) := by
  unfold State.trackTailOff
  refine (s.loseHead_does ht k).trans ?_
  dsimp only
  split
  · split
    · exact State.closeCreation_does ht hf _ _ _
    · exact State.forceCross_does ht _ _ _
  · exact .refl _

theorem State.trackBites_does (s : State) (sn : Table 7 StandSnap) : s.Does u (s.trackBites sn) := by
  have closes (x : State) (j : Stand) : x.Does u (if (sn.get j).change = .headOn then x.closeInto j else x) := by
    split
    · exact x.closeInto_does ht j
    · exact .refl x
  have ends (x : State) (k : Stand) : x.Does u (if (sn.get k).change = .tailOff then x.trackTailOff (sn.get k) k else x) := by
    split
    · exact x.trackTailOff_does ht hf _ _
    · exact .refl x
  have starts (x : State) (k : Stand) : x.Does u
      (match (sn.get k).entryHeadOn, (sn.get k).sched with
       | true, some c => x.startBar c k (sn.get k).reuse
       | _, _ => x) := by
    split
    · exact x.startBar_does ht _ _ _
    · exact .refl x
  have opens (x : State) (k : Stand) : x.Does u
      (match (sn.get k).change, (sn.get k).sched, (sn.get k).entry with
       | .headOn, some c, some e => x.openWindow c e k
       | _, _, _ => x) := by
    split
    · exact x.openWindow_does _ _ _
    · exact .refl x
  exact (State.Does.foldl closes _ s).trans ((State.Does.foldl ends _ _).trans ((State.Does.foldl starts _ _).trans
    (State.Does.foldl opens _ _)))

theorem State.standCross_does (s : State) (c : Schedule) (entryPoint : Bool) (k : Stand) :
    s.Does u (s.standCross c entryPoint k) := by
  unfold State.standCross
  dsimp only
  split
  · exact .refl s
  · split
    · split
      · exact s.create_does ht hf _ _ _
      · have created (q : Nat) := (s.setQ_does (u := u) k q).trans (State.create_does ht hf _ k c false)
        split
        · exact (created _).trans (State.slip_does ht _ _ _)
        · exact created _
    · split
      · split
        · exact (s.setQ_does _ _).trans (State.slip_does ht _ _ _)
        · have crossed (q : Nat) := ((s.setQ_does (u := u) k q).trans (State.changeSegs_does _
            (changeFirst (Segment.reaches c k) (Segment.cross k)) (changeFirst_ids _ (Segment.cross k) (fun _ => rfl) _))).trans
              (State.chargeCrossings_does _ 1)
          split
          · exact (crossed _).trans (State.slip_does ht _ _ _)
          · exact crossed _
      · exact (s.setQ_does _ _).trans (State.slip_does ht _ _ _)

theorem State.countStand_does (sn : Table 7 StandSnap) (s : State) (k : Stand) : s.Does u (State.countStand sn s k) := by
  have degrades (x : State) : x.Does u (if (sn.get k).speed.2 = .fresh then x else x.degrade) := by
    split
    · exact .refl x
    · exact x.degrade_does
  have gathers (x : State) (c : Schedule) (h : Nat) : x.Does u (x.withTrk (fun t =>
      if (sn.get k).entryPoint then
        { t with creation := t.creation.map (fun r => { r with sum := r.sum + h, count := r.count + 1 }) }
      else { t with segs := changeFirst (Segment.reaches c k) (Segment.gather h) t.segs })) := by
    cases (sn.get k).entryPoint
    · exact x.changeSegs_does _ (changeFirst_ids _ (Segment.gather h) (fun _ => rfl) _)
    · exact .same (by simp [State.view])
  unfold State.countStand
  dsimp only
  split
  · split
    · split
      · exact s.degrade_does
      · exact (degrades s).trans ((State.setQ_does _ _ _).trans ((gathers _ _ _).trans (State.standCross_does ht hf _ _ _ _)))
    · exact .refl s
  · exact .refl s

theorem State.presentSpeedLost_does (s : State) (sn : Table 7 StandSnap) : s.Does u (s.presentSpeedLost sn) := by
  unfold State.presentSpeedLost
  dsimp only
  split
  · exact (s.withTrk_does _ rfl).trans (State.enterLost_does _ _ _ ht hf)
  · exact s.withTrk_does _ rfl

omit ht hf in
theorem State.updateGaugeSpeed_does (s : State) (sn : Table 7 StandSnap) : s.Does u (s.updateGaugeSpeed sn) := by
  unfold State.updateGaugeSpeed
  split
  · exact .refl s
  · split
    · exact s.withTrk_does _ rfl
    · exact .refl s

/-- R65: TRK's work of one computation. -/
theorem State.track_does (s : State) (sn : Table 7 StandSnap) (drop : Bool) : s.Does u (s.track sn drop) := by
  have tests (b : Bool) (x : State) : x.Does u (if b then x.switchTest else x) := by
    split
    · exact x.switchTest_does
    · exact .refl x
  have drops (x : State) : x.Does u (if drop then x.stripDrop else x) := by
    split
    · exact x.stripDrop_does ht
    · exact .refl x
  have sets := (s.presentSpeedLost_does ht hf sn).trans (State.updateGaugeSpeed_does _ sn)
  exact sets.trans ((State.trackBites_does ht hf _ sn).trans ((tests _ _).trans ((drops _).trans
    ((State.countGauge_does ht _ sn).trans ((State.Does.foldl (State.countStand_does ht hf sn) _ _).trans
      (State.Does.foldl (State.advanceWindow_does ht sn) _ _))))))

end
end
end

end Sys2Proof.Machine


namespace Sys2Proof.Machine

/-! ## Mode orders -/

section
variable {u : Underway}

theorem State.applySetMode_does (s : State) (stand mode : Word) : s.Does u (s.applySetMode stand mode).1 := by
  unfold State.applySetMode
  split
  · exact .refl s
  · exact .refl s
  · split
    · exact .refl s
    · split
      · exact .refl s
      · exact .same rfl

theorem State.applyTrim_does (s : State) (stand trim : Word) : s.Does u (s.applyTrim stand trim).1 := by
  unfold State.applyTrim
  split
  · exact .refl s
  · split
    · exact .refl s
    · exact .same rfl

theorem State.deferredModeOrder_does (s : State) (hu : u.taking = none) : s.Does u s.deferredModeOrder := by
  unfold State.deferredModeOrder
  split
  · exact .refl s
  · split
    · exact State.completeWith_does _ s (s.applySetMode_does _ _) hu
    · exact State.completeWith_does _ s (s.applyTrim_does _ _) hu
    · exact .refl s

/-! ## The compute start -/

theorem State.startSlotBar_does (s : State) (k : Stand) : s.Does u (s.startSlotBar k) := by
  unfold State.startSlotBar
  split
  · exact .refl s
  · exact .same (by simp [State.view, Function.comp_def])
  · exact .same rfl

theorem State.lockOn_does (sn : Table 7 StandSnap) (s : State) (k : Stand) : s.Does u (State.lockOn sn s k) := by
  unfold State.lockOn
  dsimp only
  split
  · exact .refl s
  · exact .same rfl

theorem State.detectNodes_does (s : State) (sn : Table 7 StandSnap) (before : List Node) (ht : u.tripping = true) :
    s.Does u (s.detectNodes sn before) := by
  have detects (x : State) (p : Node × Node) : x.Does u
      (match x.losesNode sn p.1 p.2 with
       | none => x
       | some c => x.detect c x.time) := by
    split
    · exact .refl x
    · exact x.detect_does _ _ ht
  exact State.Does.foldl detects _ s

theorem State.judgeForce_does (sn : Table 7 StandSnap) (ht : u.tripping = true) (s : State) (k : Stand) :
    s.Does u (State.judgeForce sn s k) := by
  unfold State.judgeForce
  dsimp only
  split
  · exact s.setForceLimit_does _ _ ht
  · exact s.setForceLimit_does _ _ ht
  · exact s.setForceLimit_does _ _ ht
  · exact .refl s

theorem State.sequenceCheck_does (sn : Table 7 StandSnap) (windows : Table 7 (Option Window)) (ht : u.tripping = true)
    (s : State) (k : Stand) : s.Does u (State.sequenceCheck sn windows s k) := by
  unfold State.sequenceCheck
  dsimp only
  split
  · exact .refl s
  · exact s.seqTailOff_does _ ht
  · split
    · exact s.armChecks_does
    · split
      · exact s.seqHeadOn_does _ _ _ ht
      · exact .refl s

/-- R13 to R19, R57, R120, R121, R124 to R128: LINK_SILENT comes to agree with the silence count. -/
theorem State.settleStands_acts (s start : State) (sn : Table 7 StandSnap) (ht : u.tripping = true)
    (hs : u.silent = false) : Acts (s.view { u with silent := true }) ((s.settleStands start sn).view u) := by
  let v : Underway := { u with silent := true }
  have bars (x : State) (k : Stand) : x.Does v (if (sn.get k).entryHeadOn then x.startSlotBar k else x) := by
    split
    · exact x.startSlotBar_does k
    · exact .refl x
  have bitten (x : State) : x.Does v x.biteUpdate := .same rfl
  have modes (x : State) : x.Does v (x.deriveModes start sn) := .same rfl
  have silent (x : State) : Acts (x.view v) ((x.setLinkSilent (decide (x.lnk.silence = 3))).view u) := by
    have e : u = { u with silent := false } := by rw [← hs]
    rw [e]
    exact x.setLinkSilent_acts ht
  have before := (bitten s).trans ((State.Does.foldl bars allStands _).trans ((State.Does.foldl (State.lockOn_does sn)
    allStands _).trans ((modes _).trans (State.detectNodes_does _ sn start.lnk.nodes ht))))
  have after (x : State) := (State.Does.foldl (State.judgeForce_does sn ht) allStands x).trans
    (State.Does.foldl (State.sequenceCheck_does sn start.trk.windows ht) allStands _)
  exact Relation.ReflTransGen.trans before ((silent _).trans (after _))

theorem State.deviationTest_does (sn : Table 7 StandSnap) (latch : Bool) (ht : u.tripping = true)
    (x : State × Table 7 Bool) (k : Stand) : x.1.Does u (State.deviationTest sn latch x k).1 := by
  have counts (s : State) (n : Nat) : s.Does u (s.modifyGap k (fun g => { g with devCount := n })) := .same rfl
  unfold State.deviationTest
  dsimp only
  split
  · exact (counts _ _).trans (State.detect_does _ _ _ ht)
  · exact counts _ _

theorem State.deviationTests_does (sn : Table 7 StandSnap) (latch : Bool) (ht : u.tripping = true) (ks : List Stand)
    (x : State × Table 7 Bool) : x.1.Does u (ks.foldl (State.deviationTest sn latch) x).1 := by
  induction ks generalizing x with
  | nil => exact .refl _
  | cons k ks ih => exact (State.deviationTest_does sn latch ht x k).trans (ih _)

end

/-- The work of a compute start. -/
def Underway.work : Underway := { Underway.rest with tripping := true, working := true }

/-- R31: a computation begins. -/
theorem State.openComputation_acts (s : State) (c : Cycle) (h : s.lnk.runState ≠ .halted ∨ s.lnk.cycle.isSome = true) :
    Acts (s.view .rest) ((s.openComputation c).view .work) := .single (Act.openWork _ h)

/-- R31: the work of compute start is done. -/
theorem State.closeWork_acts (s : State) (sn : Table 7 StandSnap) (inputs : Table 7 LawInput) :
    Acts (s.view .work) ((s.closeWork sn inputs).view .rest) := by
  refine Acts.step .refl (Act.closeWork _ rfl) ?_
  simp [State.view, State.closeWork, Underway.work, Underway.rest]

/-- What ORD does with an order leaves LNK as it is. -/
theorem State.complete_lnk (s : State) (o : OrderOutcome) (rs : List Word) : (s.complete o rs).lnk = s.lnk := by
  have halted (x : State) : x.haltedStatus.lnk = x.lnk := by
    unfold State.haltedStatus
    split <;> rfl
  have head (x : State) : x.takeHead.lnk = x.lnk := by
    unfold State.takeHead
    split <;> rfl
  have finish (x : State) (o : OrderOutcome) (rs : List Word) : (x.finish o rs).lnk = x.lnk := by
    unfold State.finish
    split <;> rfl
  have settle (n : Nat) (x : State) : (settleOrders n x).lnk = x.lnk := by
    induction n generalizing x with
    | zero => rfl
    | succ n ih =>
      unfold settleOrders
      dsimp only
      split
      · exact (halted _).trans (head _)
      · split
        · exact (halted _).trans (head _)
        · exact (ih _).trans ((finish _ _ _).trans ((halted _).trans (head _)))
  exact (settle _ _).trans (finish _ _ _)

theorem State.deferredModeOrder_lnk (s : State) : s.deferredModeOrder.lnk = s.lnk := by
  have mode (a b : Word) : (s.applySetMode a b).1.lnk = s.lnk := by
    unfold State.applySetMode
    split
    · rfl
    · rfl
    · split
      · rfl
      · split <;> rfl
  have trim (a b : Word) : (s.applyTrim a b).1.lnk = s.lnk := by
    unfold State.applyTrim
    split
    · rfl
    · split <;> rfl
  unfold State.deferredModeOrder
  split
  · rfl
  · split
    · exact (State.complete_lnk _ _ _).trans (mode _ _)
    · exact (State.complete_lnk _ _ _).trans (trim _ _)
    · rfl

/-- R28, R50, R86: a compute start. -/
theorem State.computeStart_does (s : State) (c : Cycle) (h : s.lnk.runState ≠ .halted ∨ s.lnk.cycle.isSome = true) :
    s.Does .rest (s.computeStart c) := by
  have gauge (x : State) (out : Bool) : x.Does { Underway.work with silent := true }
      { x with comp := x.comp.map (fun (x : Computation) => { x with gaugeExcluded := out }) } :=
    .same (by simp [State.view])
  have opened : Acts (s.view .rest) ((s.deferredModeOrder.openComputation c).view .work) := by
    refine Relation.ReflTransGen.trans (s.deferredModeOrder_does rfl) (State.openComputation_acts _ c ?_)
    rwa [State.deferredModeOrder_lnk]
  unfold State.computeStart
  extract_lets start y out z sn drop w x inputs
  have linked : Acts ((start.openComputation c).view .work) (y.view { Underway.work with silent := true }) :=
    State.linkCompute_acts (u := .work) _ c rfl rfl
  have settled : Acts (z.view { Underway.work with silent := true }) (w.view .work) :=
    State.settleStands_acts (u := .work) z start sn rfl rfl
  have tested : w.Does .work x.1 := State.deviationTests_does sn start.trp.latch rfl allStands (w, Table.fill 7 false)
  have tracked : x.1.Does .work (x.1.track sn drop) := State.track_does rfl rfl x.1 sn drop
  have worked := Relation.ReflTransGen.trans (settled.trans tested) tracked
  have begun : Acts (s.view .rest) (z.view { Underway.work with silent := true }) := (opened.trans linked).trans (gauge y out)
  exact (begun.trans worked).trans (State.closeWork_acts _ sn inputs)

theorem State.startCurrent_does (s : State) : s.Does .rest s.startCurrent := by
  unfold State.startCurrent
  split
  · exact .refl s
  · next c hc =>
    have starts : s.Does .rest { s with lnk := { s.lnk with cycle := some { c with started := true } } } :=
      .same (by simp [State.view, hc])
    exact starts.trans (State.computeStart_does _ c (.inr rfl))

theorem State.startWaiting_does (s : State) (h : s.lnk.runState ≠ .halted) : s.Does .rest s.startWaiting := by
  unfold State.startWaiting
  split
  · exact .refl s
  · next c rest _ =>
    have waits : s.Does .rest { s with lnk := { s.lnk with waiting := rest } } := .same rfl
    exact waits.trans (State.computeStart_does _ c (.inl h))

theorem State.computeStartDue_does (s : State) : s.Does .rest s.computeStartDue := by
  unfold State.computeStartDue
  split
  · exact .refl s
  · next c hc =>
    dsimp only
    have due : s.Does .rest { s with lnk := { s.lnk with cycle := some { c with due := true } } } :=
      .same (by simp [State.view, hc])
    split
    · exact due.trans (State.startCurrent_does _)
    · exact due

theorem State.startNext_does (s : State) : s.Does .rest s.startNext := by
  unfold State.startNext
  split
  · exact .refl s
  · next h =>
    split
    · exact s.startWaiting_does h
    · split
      · exact s.startCurrent_does
      · exact .refl s

/-! ## The other moments of a cycle -/

theorem State.raiseGap_does {u : Underway} (c : Computation) (hu : u.tripping = true) (s : State) (k : Stand) :
    s.Does u (State.raiseGap c s k) :=
  State.Does.foldl (fun x _ => x.raise_does _ _ hu) _ s

/-- R31, R86 step 3: a compute end. -/
theorem State.computeEndEvent_does (s : State) : s.Does .rest s.computeEndEvent := by
  unfold State.computeEndEvent
  split
  · exact .refl s
  · next c hc =>
    let v : Underway := { Underway.rest with tripping := true }
    have begun : Acts (s.view .rest) (s.view v) := .single (Act.trips _)
    have commits : s.Does v (s.commitOrDiscard c) := .same rfl
    have worked := (commits.trans (State.Does.foldl (State.raiseGap_does c rfl) allStands _)).trans
      (State.tripFlushNow_does _ c.startTime rfl rfl)
    have ends (x : State) (h : x.trk.tripFlush = false) :
        Acts (x.view v) ((State.markEnded { x with comp := none } c).view .rest) := by
      refine Acts.step (.single (Act.closeComputation _ rfl rfl)) (Act.settled _ (.inr h)) ?_
      simp [State.view, State.markEnded, Underway.rest, v]
    refine begun.trans (Relation.ReflTransGen.trans worked ((ends _ (State.tripFlushNow_owes _ _)).trans ?_))
    exact (State.statusWrite_does _).trans (State.startNext_does _)

theorem State.endFirst_does (s : State) : s.Does .rest s.endFirst := by
  unfold State.endFirst
  split
  · split
    · exact s.computeEndEvent_does
    · exact .refl s
  · exact .refl s

/-- R32 to R34, R100: the command offset. -/
theorem State.commandOffsetEvent_does (s : State) : s.Does .rest s.commandOffsetEvent := by
  have passes (x : State) (c : Cycle) (hc : x.lnk.cycle = some c) : x.Does .rest (x.passOffset c) :=
    .same (by simp [State.view, State.passOffset, hc])
  have sends (x : State) (f : List Byte) : x.Does .rest { (x.send f).recordPrev with freeCount := x.freeCount + 7 } :=
    .same rfl
  unfold State.commandOffsetEvent
  refine s.endFirst_does.trans ?_
  dsimp only
  split
  · exact .refl _
  · next c hc => exact (passes _ c hc).trans (sends _ _)

/-- R26, R35, R37: an arrival in the cycle in progress. -/
theorem State.arrive_does (s : State) (c : Cycle) (bs : List Byte) (h : s.lnk.cycle = some c) :
    s.Does .rest (s.arrive c bs).1 := by
  have frees (x : State) : x.Does { Underway.rest with tripping := true } (if bs.length < 3 then x.useFree else x) := by
    split
    · exact .same rfl
    · exact .refl x
  have logs (x : State) (d : Cycle) (hx : x.lnk.cycle = some c) :
      x.Does { Underway.rest with tripping := true } { x with lnk := { x.lnk with cycle := some d } } :=
    .same (by simp [State.view, hx])
  have cycle (x : State) : (if bs.length < 3 then x.useFree else x).lnk = x.lnk := by
    split <;> rfl
  unfold State.arrive
  extract_lets j offset c' x _ y
  refine State.settleTrip_acts (t := y.afterVerdict j.2 j.1 c.number offset) ?_ rfl rfl
  exact (frees s).trans ((logs x c' (by rw [← h]; exact congrArg _ (cycle s))).trans (y.afterVerdict_does _ _ _ _ rfl))

theorem State.replyEvent_does (s : State) (bs : List Byte) : s.Does .rest (s.replyEvent bs) := by
  unfold State.replyEvent
  split
  · exact .refl s
  · next c hc =>
    dsimp only
    split
    · exact (s.arrive_does c bs hc).trans (State.computeStartDue_does _)
    · exact s.arrive_does c bs hc

end Sys2Proof.Machine


namespace Sys2Proof.Machine

/-! ## The orders -/

/-- R24: a link record that passes its checks carries a W within its range. -/
theorem readLinkRecord_warn {m : Memory} {offset : Nat} {r : List Node × Timing × Nat}
    (h : readLinkRecord m offset = .ok r) : 1 ≤ r.2.2 ∧ r.2.2 ≤ 127 := by
  unfold readLinkRecord at h
  extract_lets w at h
  dsimp only at h
  generalize (if w 3 = 0 then Config.defaultW else w 3) = warn at h
  split at h
  · exact nomatch h
  split at h
  · exact nomatch h
  split at h
  · exact nomatch h
  split at h
  · exact nomatch h
  split at h
  · exact nomatch h
  rename_i hw
  split at h
  · exact nomatch h
  split at h
  · exact nomatch h
  split at h
  · exact nomatch h
  split at h
  rotate_left
  · exact nomatch h
  injection h with h
  subst h
  simpa [Nat.one_le_iff_ne_zero] using hw

theorem answerLinkConfigure_does (s : State) (t : Taken) (ht : s.ord.taken ≠ none) :
    s.Does .rest (answerLinkConfigure s t).1 := by
  unfold answerLinkConfigure
  dsimp only
  split_ifs with hr
  · exact .refl s
  · exact .refl s
  · split
    · exact .refl s
    · next h => exact s.linkStart_does _ _ _ ht (not_not.1 hr) rfl (.inr (readLinkRecord_warn h))

theorem State.runStateOrder_does (s : State) (target : Target) : s.Does .rest (s.runStateOrder target) := by
  unfold State.runStateOrder
  split
  · exact .refl s
  · next t h =>
    split
    · have taken := (State.handedOrder_eq_some.1 h).1
      exact (s.applyRunState_does target (by rw [taken]; exact nofun) rfl).trans (State.complete_does _ _ _ rfl)
    · exact s.setPhase_does _

/-- R52: an EXCLUDED node's error count is 255, which a REJOINING one keeps. -/
theorem rejoining_ok {warn : Nat} {n : Node} (hx : n.health = .excluded) (h : Safety.NodeOk warn n) :
    Safety.NodeOk warn { n with health := .rejoining, clean := 0 } := by
  obtain ⟨he, _, hh⟩ := h
  rw [hx] at hh
  exact ⟨he, Nat.zero_lt_succ _, hh.1⟩

section
variable {u : Underway}

theorem answerNodeRejoin_does (s : State) (t : Taken) : s.Does u (answerNodeRejoin s t).1 := by
  unfold answerNodeRejoin
  split
  · exact .refl s
  · next n _ =>
    split
    · exact .refl s
    · refine State.Does.trans (.act (Act.nodes _ (fun x =>
        if x.address = n.address ∧ x.health = .excluded then { x with health := .rejoining, clean := 0 } else x)
        fun x _ _ ok => ?_)) (State.noteNode_does _)
      split_ifs with hx
      · exact rejoining_ok hx.2 ok
      · exact ok

theorem State.startCopy_does (s : State) : s.Does u s.startCopy := by
  unfold State.startCopy
  split
  · exact .refl s
  · exact s.setPhase_does _

theorem State.arm_does (s : State) (c : Schedule) : s.Does u (s.arm c).1 := by
  unfold State.arm
  extract_lets x stu y z
  have dropped : s.Does u x := by
    unfold x
    split
    · exact .refl s
    · exact s.dropFigures_does _
  have added : x.Does u (y.addFigures c) := .same rfl
  exact dropped.trans (added.trans (State.switchTest_does _))

theorem answerLoadSchedule_does (s : State) (t : Taken) (copy : Option (List Word)) :
    s.Does u (answerLoadSchedule s t copy).1 := by
  unfold answerLoadSchedule
  split
  · exact .refl s
  · split
    · exact .refl s
    · dsimp only
      split
      · exact .refl s
      · split_ifs
        · exact .refl s
        · exact .refl s
        · exact s.arm_does _

theorem State.copyEndEvent_does (s : State) (hu : u.taking = none) : s.Does u s.copyEndEvent := by
  unfold State.copyEndEvent
  split
  · exact .refl s
  · split
    · exact State.completeWith_does _ s (answerLoadSchedule_does s _ _) hu
    · exact .refl s
    · exact .refl s

theorem answerCancelPending_does (s : State) (t : Taken) : s.Does u (answerCancelPending s t).1 := by
  unfold answerCancelPending
  split
  · exact .refl s
  · split
    · exact .refl s
    · exact .same rfl

theorem State.setModeOrder_does (s : State) (hu : u.taking = none) : s.Does u s.setModeOrder := by
  unfold State.setModeOrder
  split
  · exact .refl s
  · split
    · exact State.completeWith_does _ s (s.applySetMode_does _ _) hu
    · exact s.setPhase_does _

theorem State.trimOrder_does (s : State) (hu : u.taking = none) : s.Does u s.trimOrder := by
  unfold State.trimOrder
  split
  · exact .refl s
  · split
    · exact State.completeWith_does _ s (s.applyTrim_does _ _) hu
    · exact s.setPhase_does _

theorem answerTripReset_does (s : State) (t : Taken) : s.Does u (answerTripReset s t).1 := by
  unfold answerTripReset
  split
  · exact .refl s
  · split
    · exact .refl s
    · next hr _ hc =>
      split
      · exact s.tripCleared_does hr hc
      · exact .refl s

theorem answerCounterProgram_does (s : State) (t : Taken) : s.Does u (answerCounterProgram s t).1 := by
  unfold answerCounterProgram
  split
  · split
    · exact .refl s
    · exact .refl s
    · exact .same rfl
  · exact .refl s

theorem answerClosePage_does (s : State) (t : Taken) : s.Does u (answerClosePage s t).1 := by
  unfold answerClosePage
  dsimp only
  split
  · exact .refl s
  · exact s.closeCurrent_does

/-- R179: the answer of an order's owner, which may count on the order being TAKEN. -/
theorem State.answerOrder_does (s : State) (kind : OrderKind) (owner : State → Taken → Answer)
    (h : ∀ t, s.ord.taken ≠ none → s.Does u (owner s t).1) (hu : u.taking = none) : s.Does u (s.answerOrder kind owner) := by
  unfold State.answerOrder
  split
  · exact .refl s
  · next t ht =>
    have taken := (State.handedOrder_eq_some.1 ht).1
    exact State.completeWith_does _ s (h t (by rw [taken]; exact nofun)) hu

end

theorem State.ownerActs_does (s : State) : s.Does .rest s.ownerActs := by
  unfold State.ownerActs
  split
  · exact .refl s
  · split
    · exact s.answerOrder_does _ _ (fun t ht => answerLinkConfigure_does s t ht) rfl
    · exact s.runStateOrder_does _
    · exact s.startCopy_does
    · exact s.answerOrder_does _ _ (fun t _ => answerCancelPending_does s t) rfl
    · exact s.setModeOrder_does rfl
    · exact s.trimOrder_does rfl
    · exact s.answerOrder_does _ _ (fun t _ => answerNodeRejoin_does s t) rfl
    · exact s.answerOrder_does _ _ (fun t _ => answerTripReset_does s t) rfl
    · exact s.answerOrder_does _ _ (fun t _ => answerCounterProgram_does s t) rfl
    · exact s.answerOrder_does _ _ (fun t _ => answerClosePage_does s t) rfl
    · exact .refl s
    · exact .refl s

theorem State.actOrders_does (n : Nat) (s : State) : s.Does .rest (State.actOrders n s) := by
  induction n generalizing s with
  | zero => exact .refl s
  | succ n ih =>
    unfold State.actOrders
    split
    · exact s.ownerActs_does.trans (ih _)
    · exact .refl s

end Sys2Proof.Machine


namespace Sys2Proof.Machine

/-! ## Resets (R189, R141, R158) -/

theorem ResetKind.cram_wf (kind : ResetKind) {m : Memory} (h : m.wf) : (kind.cram m).wf := by
  cases kind
  · exact Memory.nil_wf
  · exact Memory.keep_wf _ h

/-- R189: the taking of a reset leaves no slot's state word. -/
theorem ResetKind.cram_slot (kind : ResetKind) (m : Memory) (i : Fin 32) : (kind.cram m).readWord (slotBase i) = 0 := by
  cases kind
  · show Memory.readWord [] _ = 0
    simp [Memory.readWord, Memory.read, bytesWord]
  · have gone (a : Nat) (h : a < stagingBase) : (m.keep keptByPartReset).read a = 0 := by
      have pages : ¬ (0x10000 ≤ a ∧ a < 0x20000 ∧ 0x40 ≤ a % 0x1000) := by simp only [stagingBase] at h; omega
      have kept : keptByPartReset a = false := by
        unfold keptByPartReset
        rw [decide_eq_false (by omega), decide_eq_false pages]
        rfl
      rw [Memory.read_keep, kept]
      rfl
    have below : slotBase i + 3 < stagingBase := by simp only [slotBase, stagingBase]; omega
    show Memory.readWord (m.keep keptByPartReset) _ = 0
    unfold Memory.readWord
    rw [gone _ (by omega), gone _ (by omega), gone _ (by omega), gone _ (by omega)]
    rfl

section
variable {u : Underway}

/-- R189: the taking of a reset abandons all that is underway. -/
theorem State.takeReset_course (s : State) (kind : ResetKind) (runBefore : RunState) :
    Course (s.view .rest) ((s.takeReset kind runBefore).view .rest) :=
  .single <| .inr (Turn.take _ (kind.cram s.cram) kind.cram_wf (kind.cram_slot s.cram) (kind.nextId s.trk.nextId))

theorem State.functionReset_course (s : State) : Course (s.view .rest) (s.functionReset.view .rest) := by
  unfold State.functionReset
  split
  · exact s.takeReset_course _ _
  · exact s.takeReset_course _ _

end

/-- R158: the page headers lie above the areas the part writes at other times. -/
theorem Memory.readWord_resetPages (m : Memory) (a : Nat) (h : a + 4 ≤ 0x10000) : m.resetPages.readWord a = m.readWord a := by
  unfold Memory.resetPages
  generalize List.range 16 = ps
  induction ps generalizing m with
  | nil => rfl
  | cons p ps ih =>
    rw [List.foldl_cons, ih]
    exact Memory.readWord_write_outside _ _ _ _ (.inl (by omega))

theorem Memory.resetPages_wf {m : Memory} (h : m.wf) : m.resetPages.wf := by
  unfold Memory.resetPages
  generalize List.range 16 = ps
  induction ps generalizing m with
  | nil => exact h
  | cons p ps ih => exact ih (Memory.writeWords_wf _ _ h)

/-- R189: what the completion of a reset writes: the trip record, the page headers, the capture area, the status area and
the directory. -/
def Memory.completed (m : Memory) (trip status : List Word) : Memory :=
  (((m.writeWords 0x00400 trip).resetPages.writeWords armWordAt [armArmed, 0, 0, 0, 0]).writeWords 0x01000 status).writeWords
    0 directoryWords

theorem Memory.completed_wf {m : Memory} (trip status : List Word) (h : m.wf) : (m.completed trip status).wf :=
  Memory.writeWords_wf _ _ (Memory.writeWords_wf _ _ (Memory.writeWords_wf _ _ (Memory.resetPages_wf
    (Memory.writeWords_wf _ _ h))))

theorem directoryWords_length : directoryWords.length = 21 := rfl

/-- What the directory leaves of what a reset's completion writes before it. -/
theorem Memory.readWord_completed (m : Memory) (trip status : List Word) (a : Nat) (h : 0x00054 ≤ a) :
    (m.completed trip status).readWord a =
      (((m.writeWords 0x00400 trip).resetPages.writeWords armWordAt [armArmed, 0, 0, 0, 0]).writeWords 0x01000 status).readWord a :=
  Memory.readWord_writeWords_outside _ _ _ _ (.inr (by rw [directoryWords_length]; omega))

/-- The trip record after a reset's completion. -/
theorem Memory.readWord_completed_trip (m : Memory) (trip status : List Word) (a : Nat) (lo : 0x00400 ≤ a)
    (hi : a + 4 ≤ 0x01000) : (m.completed trip status).readWord a = (m.writeWords 0x00400 trip).readWord a := by
  rw [Memory.readWord_completed _ _ _ _ (by omega), Memory.readWord_writeWords_outside _ _ _ _ (.inl hi),
    Memory.readWord_writeWords_outside _ _ _ _ (.inr (by simp [armWordAt]; omega)),
    Memory.readWord_resetPages _ _ (by omega)]

/-- The order board after a reset's completion. -/
theorem Memory.readWord_completed_board (m : Memory) (trip status : List Word) (ht : trip.length = 65)
    (hs : status.length = 564) (a : Nat) (lo : 0x02000 ≤ a) (hi : a + 4 ≤ 0x10000) :
    (m.completed trip status).readWord a = m.readWord a := by
  rw [Memory.readWord_completed _ _ _ _ (by omega), Memory.readWord_writeWords_outside _ _ _ _ (.inr (by omega)),
    Memory.readWord_writeWords_outside _ _ _ _ (.inr (by simp [armWordAt]; omega)), Memory.readWord_resetPages _ _ hi,
    Memory.readWord_writeWords_outside _ _ _ _ (.inr (by omega))]

/-- R189: the page headers and the capture area are written before the status area is. -/
def Memory.beforeStatus (m : Memory) (trip : List Word) : Memory :=
  (m.writeWords 0x00400 trip).resetPages.writeWords armWordAt [armArmed, 0, 0, 0, 0]

/-- R189, R141: a reset completed, but for the status area and the directory. -/
def State.beforeStatus (s : State) : State :=
  let t := s.trp.atCompletion s.tripIn
  { s with resetting := none, time := 0, tripNumber := 1, trp := t, cram := s.cram.beforeStatus (tripWords 1 t) }

theorem State.completeReset_eq {s : State} {r : ResetInProgress} (h : s.resetting = some r) :
    s.completeReset = { s.beforeStatus with
      hif := { s.hif with statusNumber := s.hif.statusNumber + 1 }
      cram := s.cram.completed (tripWords 1 s.beforeStatus.trp) (statusWords s.beforeStatus (s.hif.statusNumber + 1)) } := by
  unfold State.completeReset
  rw [h]
  rfl

theorem Trp.atCompletion_latch (t : Trp) (b : Bool) : (t.atCompletion b).latch = t.latch := by cases b <;> rfl

theorem Trp.atCompletion_present (t : Trp) (b : Bool) :
    (t.atCompletion b).present = if b then t.present else { t.present with external := true } := by cases b <;> rfl

theorem State.completeReset_course {u : Underway} (s : State) : Course (s.view u) (s.completeReset.view u) := by
  cases h : s.resetting with
  | none =>
    unfold State.completeReset
    rw [h]
  | some r =>
    rw [State.completeReset_eq h]
    have hr : (s.view u).resetting = true := by
      show s.resetting.isSome = true
      rw [h]
      rfl
    obtain ⟨trip, tripEq, tripLength⟩ := tripWords_eq 1 s.beforeStatus.trp
    have statusLength := statusWords_length s.beforeStatus (s.hif.statusNumber + 1)
    obtain ⟨status, statusEq, _⟩ := statusWords_eq s.beforeStatus (s.hif.statusNumber + 1)
    let mem := s.cram.completed (tripWords 1 s.beforeStatus.trp) (statusWords s.beforeStatus (s.hif.statusNumber + 1))
    have wf (hm : s.cram.wf) : mem.wf := Memory.completed_wf _ _ hm
    have board (i : Fin 32) : mem.readWord (slotBase i) = s.cram.readWord (slotBase i) :=
      Memory.readWord_completed_board _ _ _ (tripWords_length _ _) statusLength _ (by simp only [slotBase]; omega)
        (by simp only [slotBase]; omega)
    have stamps : mem.readWord 0x01000 = s.hif.statusNumber + 1 ∧ mem.readWord 0x01004 = s.hif.statusNumber + 1 := by
      unfold mem
      rw [Memory.readWord_completed _ _ _ _ (by omega), Memory.readWord_completed _ _ _ _ (by omega), statusEq]
      exact Memory.readWord_writeWords_first _ _ _ _ _
    have numbers : mem.readWord 0x00400 = 1 ∧ mem.readWord 0x00404 = 1 := by
      unfold mem
      rw [Memory.readWord_completed_trip _ _ _ _ (by omega) (by omega),
        Memory.readWord_completed_trip _ _ _ _ (by omega) (by omega), tripEq]
      exact Memory.readWord_writeWords_first _ _ _ _ _
    have done := Turn.complete _ hr (s.hif.statusNumber + 1) 1 mem wf board stamps numbers
    refine .single (.inr (Eq.subst (motive := fun w => Turn (s.view u) w) ?_ done))
    simp only [State.view, State.beforeStatus, Trp.atCompletion_latch, Trp.atCompletion_present]
    rfl

end Sys2Proof.Machine


namespace Sys2Proof.Machine

/-! ## The kinds of words of CRAM (R172, 11.2) -/

section
variable {a : Nat}

theorem wordKind_directory (h : a < 0x00100) : wordKind a = .partWritten := by rw [wordKind, if_pos h]

theorem wordKind_capture (lo : 0x00100 ≤ a) (hi : a < 0x00200) :
    wordKind a = if a = armWordAt then .armWord else .partWritten := by
  rw [wordKind, if_neg (by omega), if_pos hi]

theorem wordKind_afterCapture (lo : 0x00200 ≤ a) (hi : a < 0x00400) : wordKind a = .unpopulated := by
  rw [wordKind, if_neg (by omega), if_neg (by omega), if_pos hi]

theorem wordKind_tripRecord (lo : 0x00400 ≤ a) (hi : a < 0x00800) : wordKind a = .partWritten := by
  rw [wordKind, if_neg (by omega), if_neg (by omega), if_neg (by omega), if_pos hi]

theorem wordKind_afterTripRecord (lo : 0x00800 ≤ a) (hi : a < 0x01000) : wordKind a = .unpopulated := by
  rw [wordKind, if_neg (by omega), if_neg (by omega), if_neg (by omega), if_neg (by omega), if_pos hi]

theorem wordKind_status (lo : 0x01000 ≤ a) (hi : a < 0x02000) : wordKind a = .partWritten := by
  rw [wordKind, if_neg (by omega), if_neg (by omega), if_neg (by omega), if_neg (by omega), if_neg (by omega), if_pos hi]

theorem wordKind_board (lo : 0x02000 ≤ a) (hi : a < 0x03000) :
    wordKind a =
      if a % 0x80 = 0 then .slotState (Fin.ofNat 32 ((a - 0x02000) / 0x80))
      else if a % 0x80 < 0x40 then .slotRequest (Fin.ofNat 32 ((a - 0x02000) / 0x80)) else .partWritten := by
  rw [wordKind, if_neg (by omega), if_neg (by omega), if_neg (by omega), if_neg (by omega), if_neg (by omega),
    if_neg (by omega), if_pos hi]

theorem wordKind_afterBoard (lo : 0x03000 ≤ a) (hi : a < 0x08000) : wordKind a = .unpopulated := by
  rw [wordKind, if_neg (by omega), if_neg (by omega), if_neg (by omega), if_neg (by omega), if_neg (by omega),
    if_neg (by omega), if_neg (by omega), if_pos hi]

theorem wordKind_staging (lo : 0x08000 ≤ a) (hi : a < 0x10000) : wordKind a = .staging := by
  rw [wordKind, if_neg (by omega), if_neg (by omega), if_neg (by omega), if_neg (by omega), if_neg (by omega),
    if_neg (by omega), if_neg (by omega), if_neg (by omega), if_pos hi]

theorem wordKind_pages (lo : 0x10000 ≤ a) (hi : a < 0x20000) :
    wordKind a = if a % 0x1000 = 0 then .pageState (Fin.ofNat 16 ((a - 0x10000) / 0x1000)) else .partWritten := by
  rw [wordKind, if_neg (by omega), if_neg (by omega), if_neg (by omega), if_neg (by omega), if_neg (by omega),
    if_neg (by omega), if_neg (by omega), if_neg (by omega), if_neg (by omega), if_pos hi]

theorem wordKind_afterPages (lo : 0x20000 ≤ a) : wordKind a = .unpopulated := by
  rw [wordKind, if_neg (by omega), if_neg (by omega), if_neg (by omega), if_neg (by omega), if_neg (by omega),
    if_neg (by omega), if_neg (by omega), if_neg (by omega), if_neg (by omega), if_neg (by omega)]

end

theorem slotOf_board {a : Nat} (lo : 0x02000 ≤ a) (hi : a < 0x03000) :
    slotBase (Fin.ofNat 32 ((a - 0x02000) / 0x80)) = a - a % 0x80 := by
  simp only [slotBase, Fin.ofNat]
  omega

theorem pageOf_pages {a : Nat} (lo : 0x10000 ≤ a) (hi : a < 0x20000) :
    pageBase (Fin.ofNat 16 ((a - 0x10000) / 0x1000)) = a - a % 0x1000 := by
  simp only [pageBase, Fin.ofNat]
  omega

/-- Where a word of each kind lies. -/
def WordKind.Place (a : Nat) : WordKind → Prop
  | .staging => 0x08000 ≤ a ∧ a < 0x10000
  | .slotState i => a = slotBase i
  | .slotRequest i => slotBase i < a ∧ a < slotBase i + 0x40
  | .pageState p => a = pageBase p
  | .armWord => a = armWordAt
  | .partWritten => True
  | .unpopulated => True

theorem wordKind_place (a : Nat) : (wordKind a).Place a := by
  rcases Nat.lt_or_ge a 0x00100 with h | h0
  · rw [wordKind_directory h]
    trivial
  rcases Nat.lt_or_ge a 0x00200 with h | h1
  · rw [wordKind_capture h0 h]
    split
    · next e => exact e
    · trivial
  rcases Nat.lt_or_ge a 0x00400 with h | h2
  · rw [wordKind_afterCapture h1 h]
    trivial
  rcases Nat.lt_or_ge a 0x00800 with h | h3
  · rw [wordKind_tripRecord h2 h]
    trivial
  rcases Nat.lt_or_ge a 0x01000 with h | h4
  · rw [wordKind_afterTripRecord h3 h]
    trivial
  rcases Nat.lt_or_ge a 0x02000 with h | h5
  · rw [wordKind_status h4 h]
    trivial
  rcases Nat.lt_or_ge a 0x03000 with h | h6
  · rw [wordKind_board h5 h]
    have base := slotOf_board h5 h
    split
    · show a = slotBase _
      omega
    · split
      · show slotBase _ < a ∧ a < slotBase _ + 0x40
        omega
      · trivial
  rcases Nat.lt_or_ge a 0x08000 with h | h7
  · rw [wordKind_afterBoard h6 h]
    trivial
  rcases Nat.lt_or_ge a 0x10000 with h | h8
  · rw [wordKind_staging h7 h]
    exact ⟨h7, h⟩
  rcases Nat.lt_or_ge a 0x20000 with h | h9
  · rw [wordKind_pages h8 h]
    have base := pageOf_pages h8 h
    split
    · show a = pageBase _
      omega
    · trivial
  rw [wordKind_afterPages h9]
  trivial

theorem wordKind_slotBase (i : Fin 32) : wordKind (slotBase i) = .slotState i := by
  rw [wordKind_board (by simp only [slotBase]; omega) (by simp only [slotBase]; omega),
    if_pos (by simp only [slotBase]; omega)]
  congr 1
  simp only [Fin.ext_iff, Fin.ofNat, slotBase]
  omega

theorem wordKind_slotRequest {a : Nat} {i : Fin 32} (lo : slotBase i < a) (hi : a < slotBase i + 0x40) :
    wordKind a = .slotRequest i := by
  simp only [slotBase] at lo hi
  rw [wordKind_board (by omega) (by omega), if_neg (by omega), if_pos (by omega)]
  congr 1
  simp only [Fin.ext_iff, Fin.ofNat]
  omega

/-! ## Host writes of CRAM -/

/-- R172: the part of a write that falls in a word lies in that word. -/
theorem coveredPart_inside {addr : Nat} (bytes : List Byte) {a : Nat} (h : addr ≤ a + 4) :
    a ≤ (coveredPart addr bytes a).1 ∧ (coveredPart addr bytes a).1 + (coveredPart addr bytes a).2.length ≤ a + 4 := by
  unfold coveredPart
  simp only [List.length_take]
  omega

theorem touchedWords_mem {addr n a : Nat} (h : a ∈ touchedWords addr n) : a % 4 = 0 ∧ addr ≤ a + 4 := by
  unfold touchedWords at h
  split at h
  · simp at h
  · obtain ⟨i, _, rfl⟩ := List.mem_map.1 h
    omega

theorem Spared.inside {a n lo k : Nat} (h : Spared a n) (hl : a ≤ lo) (hk : lo + k ≤ a + n) : Spared lo k :=
  ⟨fun x hx => (h.1 x hx).imp (by omega) (by omega), fun i => (h.2 i).imp (by omega) (by omega)⟩

section
variable {u : Underway}

theorem State.dropWord_does (s : State) (a : Nat) (v : Violation) : s.Does u (s.dropWord a v) := .same rfl

theorem State.writePart_does (s : State) (addr : Nat) (bytes : List Byte) (a : Nat) (h : Spared a 4) (ha : addr ≤ a + 4) :
    s.Does u (s.writePart addr bytes a) := by
  obtain ⟨lo, hi⟩ := coveredPart_inside bytes ha
  exact .act (Act.write _ _ _ (h.inside lo hi))

theorem State.writeGuarded_does (s : State) (a : Nat) (full : Option Word) (transition : Word → State)
    (h : ∀ v, s.Does u (transition v)) : s.Does u (s.writeGuarded a full transition) := by
  unfold State.writeGuarded
  split
  · exact s.dropWord_does _ _
  · split
    · exact .refl s
    · exact h _

theorem State.writeSlotState_does (s : State) (i : Fin 32) (v : Word) (hr : s.resetting = none) (hu : u.taking = none) :
    s.Does u (s.writeSlotState i v) := by
  unfold State.writeSlotState
  dsimp only
  split
  · next h => exact s.post_does i hr h.1 hu
  · split
    · next h => exact .act (Act.release _ i h.1)
    · exact s.dropWord_does _ _

theorem State.writePageState_does (s : State) (p : Fin 16) (v : Word) : s.Does u (s.writePageState p v) := by
  unfold State.writePageState
  split
  · exact s.putWord_does _ _ (.high (pageBase_le p))
  · exact s.dropWord_does _ _

theorem State.writeArmWord_does (s : State) (v : Word) : s.Does u (s.writeArmWord v) := by
  unfold State.writeArmWord
  split
  · exact s.putWord_does _ _ (.low (by simp [armWordAt]))
  · exact s.dropWord_does _ _

theorem State.hostWord_does (s : State) (addr : Nat) (bytes : List Byte) (a : Nat) (hr : s.resetting = none)
    (hu : u.taking = none) (ha : a % 4 = 0) (h : addr ≤ a + 4) : s.Does u (s.hostWord addr bytes a) := by
  have place := wordKind_place a
  unfold State.hostWord
  dsimp only
  split <;> rename_i kind <;> rw [kind] at place
  · exact .refl s
  · exact s.dropWord_does _ _
  · exact s.writePart_does _ _ _ (.high (by have := place.1; omega)) h
  · next i =>
    have inSlot : slotBase i < a ∧ a < slotBase i + 0x40 := place
    split
    · exact s.writePart_does _ _ _ (.inSlot i (by simp only [slotBase] at inSlot ⊢; omega) (by omega)) h
    · exact s.dropWord_does _ _
  · exact s.writeGuarded_does _ _ _ (fun v => s.writeSlotState_does _ v hr hu)
  · exact s.writeGuarded_does _ _ _ (s.writePageState_does _)
  · exact s.writeGuarded_does _ _ _ s.writeArmWord_does

end

end Sys2Proof.Machine


namespace Sys2Proof.Machine

theorem State.Does.resetting {u : Underway} {s t : State} (h : s.Does u t) (hr : s.resetting = none) : t.resetting = none := by
  have kept : (t.view u).resetting = false :=
    Acts.keeps (P := fun v => v.resetting = false) (fun v w a e => (a.keeps_resetting v w).trans e) h
      (by show s.resetting.isSome = false; rw [hr]; rfl)
  exact Option.isSome_eq_false_iff.1 kept |> Option.isNone_iff_eq_none.1

theorem State.hostWords_does (addr : Nat) (bytes : List Byte) (ws : List Nat) (s : State) (hr : s.resetting = none)
    (hw : ∀ a ∈ ws, a % 4 = 0 ∧ addr ≤ a + 4) : s.Does .rest (State.hostWords addr bytes ws s) := by
  induction ws generalizing s with
  | nil => exact .refl s
  | cons a ws ih =>
    obtain ⟨ha, later⟩ := List.forall_mem_cons.1 hw
    have first : s.Does .rest (s.hostWord addr bytes a) := s.hostWord_does addr bytes a hr rfl ha.1 ha.2
    cases ws with
    | nil => exact first
    | cons b ws =>
      have next (x : State) (h : s.Does .rest x) : s.Does .rest (State.hostWords addr bytes (b :: ws) x) :=
        h.trans (ih x (h.resetting hr) later)
      show s.Does .rest (State.hostWords addr bytes (b :: ws) (match wordKind a with
       | .slotState _ => (s.hostWord addr bytes a).actOrders 64
       | _ => s.hostWord addr bytes a))
      split
      · exact next _ (first.trans (State.actOrders_does _ _))
      · exact next _ first

theorem State.hostWrite_does (s : State) (addr : Nat) (bytes : List Byte) : s.Does .rest (s.hostWrite addr bytes) := by
  unfold State.hostWrite
  split
  · exact .refl s
  · next hr => exact State.hostWords_does _ _ _ s (by simpa using hr) fun a ha => touchedWords_mem ha

/-! ## The registers and TRIP_IN -/

theorem State.newsEnWrite_does {u : Underway} (s : State) (value : Word) : s.Does u (s.newsEnWrite value) := by
  unfold State.newsEnWrite
  split
  · exact .refl s
  · exact .act (Act.enable _ _)

theorem State.newsRead_does {u : Underway} (s : State) (first count : Nat) : s.Does u (s.newsRead first count) := by
  unfold State.newsRead
  dsimp only
  have read (w : Word) : s.Does u { s with readData := w } := .same rfl
  split
  · exact read _
  · exact (read _).trans (State.withNews_does _ _ rfl)

/-- R119, R118: TRP settles what a level cause that joins has latched. -/
theorem State.settled_does {s t : State} (h : s.Does { Underway.rest with tripping := true } t) : s.Does .rest t.settleTrip :=
  State.settleTrip_acts (u := .rest) h rfl rfl

theorem State.ctrlWrite_course (s : State) (value : Word) : Course (s.view .rest) ((s.ctrlWrite value).view .rest) := by
  unfold State.ctrlWrite
  dsimp only
  split
  · exact .refl
  · split
    · exact s.takeReset_course _ _
    · split
      · exact .refl
      · next h =>
        refine .of_acts (State.settled_does (s.setCommanded_does _ rfl ?_))
        cases hb : s.ctrlCommanded <;> simp_all

theorem State.registerWrite_course (s : State) (offset : Nat) (bytes : List Byte) :
    Course (s.view .rest) ((s.registerWrite offset bytes).view .rest) := by
  unfold State.registerWrite
  split
  · split
    · exact s.ctrlWrite_course _
    · split
      · exact .of_acts (s.newsEnWrite_does _)
      · exact .refl
  · exact .refl

theorem State.setTripIn_does (s : State) (high : Bool) : s.Does .rest (s.setTripIn high) := by
  unfold State.setTripIn
  dsimp only
  split
  · next h =>
    rcases Bool.or_eq_true_iff.1 h with hr | hc
    · exact .act (Act.lineOnly _ high hr)
    · obtain rfl : s.tripIn = high := by simpa using hc
      exact .refl s
  · next h =>
    obtain ⟨hr, hc⟩ : s.resetting = none ∧ s.tripIn ≠ high := by simpa using h
    refine State.settled_does (s.setExternal_acts high rfl hr ?_)
    cases hi : s.tripIn <;> cases high <;> simp_all

/-! ## Time passes -/

theorem State.passTo_course {u : Underway} (s : State) (t : Nat) : Course (s.view u) ((s.passTo t).view u) := by
  unfold State.passTo
  split
  · exact .refl
  · next h => exact .single (.inr (Turn.pass _ t (Nat.le_of_lt (Nat.lt_of_not_le h))))

theorem State.fire_does (s : State) {d : Due} (h : d ≠ .resetCompletion) : s.Does .rest (s.fire d) := by
  cases d with
  | order => exact s.ownerActs_does
  | computeEnd => exact s.computeEndEvent_does
  | copyEnd => exact s.copyEndEvent_does rfl
  | replyDeadline => exact s.computeStartDue_does
  | commandOffset => exact s.commandOffsetEvent_does
  | cycleStart => exact s.cycleStartEvent_does
  | resetCompletion => exact absurd rfl h

theorem State.fire_course (s : State) (d : Due) : Course (s.view .rest) ((s.fire d).view .rest) := by
  by_cases h : d = .resetCompletion
  · subst h
    exact s.completeReset_course
  · exact .of_acts (s.fire_does h)

theorem runTo_course (n target : Nat) (s : State) : Course (s.view .rest) ((runTo n target s).view .rest) := by
  induction n generalizing s with
  | zero => exact s.passTo_course target
  | succ n ih =>
    unfold runTo
    split
    · exact s.passTo_course target
    · split
      · exact (s.passTo_course _).trans ((State.fire_course _ _).trans (ih _))
      · exact s.passTo_course target

/-! ## The clock -/

theorem State.Does.clock {u : Underway} {s t : State} (h : s.Does u t) : t.clock = s.clock :=
  Acts.keeps (P := fun v => v.clock = s.clock) (fun v w a e => (a.keeps_clock v w).trans e) h rfl

theorem State.completeReset_clock (s : State) : s.completeReset.clock = s.clock := by
  unfold State.completeReset
  split <;> rfl

/-- Log entry 1: a step the part takes of itself takes no time. -/
theorem State.fire_clock (s : State) (d : Due) : (s.fire d).clock = s.clock := by
  by_cases h : d = .resetCompletion
  · subst h
    exact s.completeReset_clock
  · exact (s.fire_does h).clock

/-- An order step is due at once. -/
theorem State.dueAt_order {s : State} {t : Nat} (h : s.dueAt .order = some t) : t = s.clock := by
  simp only [State.dueAt] at h
  split at h
  · exact (Option.some.inj h).symm
  · cases h

/-- Log entry 1: time passes up to its target, and not beyond it. -/
theorem runTo_clock (n target : Nat) (s : State) (h : s.clock ≤ target) : (runTo n target s).clock = target := by
  induction n generalizing s with
  | zero =>
    show (s.passTo target).clock = target
    rw [State.passTo_clock]
    omega
  | succ n ih =>
    unfold runTo
    split
    · rw [State.passTo_clock]
      omega
    · next d hd =>
      split
      · next taken =>
        refine ih _ ?_
        have ahead : d.2 ≤ target := by
          rcases Bool.or_eq_true_iff.1 taken with e | e
          · exact Nat.le_of_lt (of_decide_eq_true e)
          · have at_order := State.nextDue_dueAt hd
            rw [show d.1 = .order from by simpa using e] at at_order
            rw [State.dueAt_order at_order]
            exact h
        rw [State.fire_clock, State.passTo_clock]
        omega
      · rw [State.passTo_clock]
        omega

theorem State.elapse_clock (s : State) (dt : Nat) : (s.elapse dt).clock = s.clock + dt :=
  runTo_clock _ _ s (Nat.le_add_right _ _)

theorem State.elapse_course (s : State) (dt : Nat) : Course (s.view .rest) ((s.elapse dt).view .rest) := runTo_course _ _ s

theorem State.receive_course (s : State) (bs : List Byte) : Course (s.view .rest) ((s.receive bs).view .rest) := by
  unfold State.receive
  split
  · exact .refl
  · refine Relation.ReflTransGen.trans ?_ (Course.of_acts (State.replyEvent_does _ _))
    unfold State.intoCycle
    split
    · exact s.fire_course _
    · exact .refl

theorem State.takeDue_course (s : State) (d : Due) : Course (s.view .rest) ((s.takeDue d).view .rest) := by
  unfold State.takeDue
  split
  · exact .refl
  · dsimp only
    split
    · exact (s.elapse_course _).trans (State.fire_course _ _)
    · exact s.elapse_course _

/-! ## Every command -/

theorem exec_course {c : Instr} {s t : State} (h : exec c s = .next t) : Course (s.view .rest) (t.view .rest) := by
  have after {dt : Nat} {x : State} (g : Course ((s.elapse dt).view .rest) (x.view .rest)) :
      Course (s.view .rest) (x.view .rest) := (s.elapse_course dt).trans g
  cases c with
  | hostCramWrite dt addr bytes =>
    change (if _ then _ else _) = _ at h
    split at h
    · cases h
      exact after (.of_acts (State.hostWrite_does _ _ _))
    · cases h
  | powerOnReset dt => cases h; exact after (State.takeReset_course _ _ _)
  | partReset dt value => cases h; exact after (State.ctrlWrite_course _ _)
  | functionLevelReset dt => cases h; exact after (State.functionReset_course _)
  | resetCompletion dt => cases h; exact after (State.completeReset_course _)
  | commanded dt value => cases h; exact after (State.ctrlWrite_course _ _)
  | newsRead dt first count => cases h; exact after (.of_acts (State.newsRead_does _ _ _))
  | newsEnWrite dt value => cases h; exact after (.of_acts (State.newsEnWrite_does _ _))
  | ignoredRegisterWrite dt offset bytes => cases h; exact after (State.registerWrite_course _ _ _)
  | reply dt octets => cases h; exact after (State.receive_course _ _)
  | tripInLow dt => cases h; exact after (.of_acts (State.setTripIn_does _ _))
  | tripInHigh dt => cases h; exact after (.of_acts (State.setTripIn_does _ _))
  | linkConfigure =>
    cases h; exact .of_acts (s.answerOrder_does _ _ (fun t ht => answerLinkConfigure_does s t ht) rfl)
  | runStateReady => cases h; exact .of_acts (s.runStateOrder_does _)
  | runStateRun => cases h; exact .of_acts (s.runStateOrder_does _)
  | runStateHalt => cases h; exact .of_acts (s.runStateOrder_does _)
  | loadSchedule => cases h; exact .of_acts s.startCopy_does
  | cancelPending => cases h; exact .of_acts (s.answerOrder_does _ _ (fun t _ => answerCancelPending_does s t) rfl)
  | setMode => cases h; exact .of_acts (s.setModeOrder_does rfl)
  | operatorTrim => cases h; exact .of_acts (s.trimOrder_does rfl)
  | nodeRejoin => cases h; exact .of_acts (s.answerOrder_does _ _ (fun t _ => answerNodeRejoin_does s t) rfl)
  | tripReset => cases h; exact .of_acts (s.answerOrder_does _ _ (fun t _ => answerTripReset_does s t) rfl)
  | counterProgram => cases h; exact .of_acts (s.answerOrder_does _ _ (fun t _ => answerCounterProgram_does s t) rfl)
  | closePage => cases h; exact .of_acts (s.answerOrder_does _ _ (fun t _ => answerClosePage_does s t) rfl)
  | scheduleCopyEnd => cases h; exact s.takeDue_course _
  | cycleStart => cases h; exact s.takeDue_course _
  | replyDeadline => cases h; exact s.takeDue_course _
  | computeEnd => cases h; exact s.takeDue_course _
  | commandOffset => cases h; exact s.takeDue_course _

/-- What no command's queue enters into, and every act and turn keeps, every step keeps. -/
theorem step_keeps {P : View → Prop} (act : ∀ v w, Act v w → P v → P w) (turn : ∀ v w, Turn v w → P v → P w)
    (queue : ∀ (v : View) (q : List Instr), P v → P { v with pending := q }) {s t : State} (h : step s = .next t)
    (hs : P (s.view .rest)) : P (t.view .rest) := by
  unfold step at h
  split at h
  · cases h
    exact (s.elapse_course 1).keeps act turn hs
  · next c rest _ => exact (exec_course h).keeps act turn (queue _ rest hs)

end Sys2Proof.Machine


/-! # The laws every step keeps (O2, O52 to O59) -/

namespace Sys2Proof.Machine

open Safety

/-! ## The laws of Safety.lean, read on a view -/

theorem State.runLaw_iff (s : State) : (s.view .rest).RunLaw ↔ RunLaw s ∧ LevelLaw s := by
  have reset : (s.view .rest).resetting = true ↔ s.resetting ≠ none := Option.isSome_iff_ne_none
  have idle : ((s.view .rest).queue = [] ∧ (s.view .rest).taken = none ∧ (s.view .rest).computing = false) ↔
      (s.ord = ⟨[], none⟩ ∧ s.comp = none) := by
    show (s.ord.queue = [] ∧ s.ord.taken.map (·.slot) = none ∧ s.comp.isSome = false) ↔ _
    cases s.ord
    simp [and_assoc]
  have linked : (s.view .rest).linked = false ↔ s.lnk.cycle = none := by
    show s.lnk.cycle.isSome = false ↔ _
    simp
  have active : (s.view .rest).active.isSome = true ↔ s.stu.active.isSome = true := by
    show (s.stu.active.map (·.sched)).isSome = true ↔ _
    simp
  have line : (s.view .rest).present.external = (!(s.view .rest).resetting && !(s.view .rest).tripIn) ↔
      s.trp.present.external = (s.resetting.isNone && !s.tripIn) := by
    show s.trp.present.external = (!s.resetting.isSome && !s.tripIn) ↔ _
    simp
  constructor
  · intro h
    refine ⟨⟨fun e => ?_, fun e => ?_, fun e => ?_⟩, line.1 h.external, h.commanded, h.linkSilent rfl, ?_, h.clear⟩
    · obtain ⟨halted, free⟩ := h.reset (reset.2 e)
      exact ⟨halted, idle.1 free⟩
    · obtain ⟨latched, off, _⟩ := h.halted e
      exact ⟨latched, linked.1 off⟩
    · obtain ⟨clear, held⟩ := h.run e
      exact ⟨clear, active.1 held⟩
    · exact fun e => (h.halted e).2.2
  · rintro ⟨⟨whenReset, whenHalted, whenRun⟩, external, commanded, silent, still, clear⟩
    exact {
      reset := fun e => ⟨(whenReset (reset.1 e)).1, idle.2 (whenReset (reset.1 e)).2⟩
      halted := fun e => ⟨(whenHalted e).1, linked.2 (whenHalted e).2, still e⟩
      run := fun e => ⟨(whenRun e).1, active.2 (whenRun e).2⟩
      external := line.2 external
      commanded := commanded
      linkSilent := fun _ => silent
      clear := clear
      working := nofun }

theorem State.trackLaw_iff (s : State) :
    (s.view .rest).TrackLaw ↔ TableLaw s ∧ ConservationLaw s ∧ TrackingLaw s ∧ FlushLaw s := by
  have length : (s.view .rest).ids.length = s.trk.segs.length := List.length_map _
  have none_open : ((s.view .rest).ids = [] ∧ (s.view .rest).creating = false) ↔ (s.trk.segs = [] ∧ s.trk.creation = none) := by
    show (s.trk.segs.map (·.id) = [] ∧ s.trk.creation.isSome = false) ↔ _
    simp
  have resting : (s.view .rest).computing = false ↔ s.comp = none := by
    show s.comp.isSome = false ↔ _
    simp
  have counts : (s.view .rest).created = BitVec.ofNat 32 (s.view .rest).ids.length + (s.view .rest).reported +
      (s.view .rest).lost + (s.view .rest).popped ↔ ConservationLaw s := by
    rw [length]
    show s.trk.created = _ + s.rpt.reported + s.rpt.lost + 0 ↔ _
    rw [add_zero]
    rfl
  constructor
  · intro h
    obtain ⟨bound, ids, conserved, empty, flush, _⟩ := h
    rw [length] at bound ids
    exact ⟨⟨bound, ids⟩, counts.1 conserved, fun e => none_open.1 (empty rfl e), fun e => flush rfl (resting.2 e)⟩
  · rintro ⟨⟨bound, ids⟩, conserved, empty, flush⟩
    exact {
      bound := length ▸ bound
      ids := by rw [length]; exact ids
      conserved := counts.2 conserved
      empty := fun _ e => none_open.2 (empty e)
      flush := fun _ e => flush (resting.1 e)
      working := nofun }

theorem State.monitorLaw_iff (s : State) : (s.view .rest).MonitorLaw ↔ MonitorLaw s := by
  unfold View.MonitorLaw MonitorLaw
  show (match s.stu.active.map (·.sched) with
    | none => s.gap.mi = 0
    | some c => s.gap.mi.natAbs ≤ c.miMax) ↔ _
  cases s.stu.active <;> rfl

theorem State.orderLaw_iff (s : State) : (s.view .rest).OrderLaw ↔ OrderLaw s := by
  have idle : (s.view .rest).taken = none ↔ s.ord.taken = none := Option.map_eq_none_iff
  constructor
  · intro h
    exact ⟨h.nodup, h.queued, fun e => h.idle rfl (idle.2 e), h.taken⟩
  · rintro ⟨nodup, queued, free, taken⟩
    exact ⟨nodup, queued, taken, fun _ e => free (idle.1 e), nofun⟩

theorem State.stampLaw_iff (s : State) : (s.view .rest).StampLaw ↔ StampLaw s := by
  unfold View.StampLaw StampLaw
  show (s.resetting.isSome = false → (s.word 0x01000 = s.hif.statusNumber ∧ s.word 0x01004 = s.hif.statusNumber) ∧
    s.word 0x00400 = s.tripNumber ∧ s.word 0x00404 = s.tripNumber) ↔ _
  simp [and_assoc]

/-! ## The obligations -/

/-- Settles O52: CRAM is only ever written in its canonical form. -/
theorem stepsKeepMemoryLaw : Obligations.StepsKeepMemoryLaw := fun _ _ hs h =>
  step_keeps Act.keeps_memoryLaw Turn.keeps_memoryLaw (fun _ _ e => e) h hs

/-- Settles O53: latching, TRIP_RESET and resets write TRIP_OUT and NEWS.TRIP with the latch; the request follows every
change of NEWS and NEWS_EN. -/
theorem stepsKeepLatchAndIrqLaw : Obligations.StepsKeepLatchAndIrqLaw := fun _ _ latch irq h => by
  obtain ⟨trip, out, request⟩ := step_keeps Act.keeps_latchLaw Turn.keeps_latchLaw (fun _ _ e => e) h ⟨latch.1, latch.2, irq⟩
  exact ⟨⟨trip, out⟩, request⟩

/-- Settles O54, by `View.RunLaw`, which says besides what holds within a compute start. -/
theorem stepsKeepRunAndLevelLaw : Obligations.StepsKeepRunAndLevelLaw := fun s t run level h =>
  (State.runLaw_iff t).1 (step_keeps Act.keeps_runLaw Turn.keeps_runLaw (fun _ _ e => { e with }) h
    ((State.runLaw_iff s).2 ⟨run, level⟩))

/-- Settles O55, by `View.TrackLaw`, which says besides what holds within a removal and within a flush. -/
theorem stepsKeepTrackingLaws : Obligations.StepsKeepTrackingLaws := fun s t table counts tracking flush h =>
  (State.trackLaw_iff t).1 (step_keeps Act.keeps_trackLaw Turn.keeps_trackLaw (fun _ _ e => { e with }) h
    ((State.trackLaw_iff s).2 ⟨table, counts, tracking, flush⟩))

/-- Settles O56: MI moves by a clamped monitor update and by the coil change. -/
theorem stepsKeepMonitorLaw : Obligations.StepsKeepMonitorLaw := fun s t hs h =>
  (State.monitorLaw_iff t).1 (step_keeps Act.keeps_monitorLaw Turn.keeps_monitorLaw (fun _ _ e => e) h
    ((State.monitorLaw_iff s).2 hs))

/-- Settles O57, by `healthStep` (R47 to R49, R53), NODE_REJOIN (R52) and the link start (R46). -/
theorem stepsKeepNodeLaw : Obligations.StepsKeepNodeLaw := fun _ _ hs h =>
  step_keeps Act.keeps_nodeLaw Turn.keeps_nodeLaw (fun _ _ e => e) h hs

/-- Settles O58, by `View.OrderLaw`, which says besides what holds between a completion and the next taking. -/
theorem stepsKeepOrderLaw : Obligations.StepsKeepOrderLaw := fun s t hs h =>
  (State.orderLaw_iff t).1 (step_keeps Act.keeps_orderLaw Turn.keeps_orderLaw (fun _ _ e => { e with }) h
    ((State.orderLaw_iff s).2 hs))

/-- Settles O59: each area's write carries both stamps, and no other write touches them. -/
theorem stepsKeepStampLaw : Obligations.StepsKeepStampLaw := fun s t hs h =>
  (State.stampLaw_iff t).1 (step_keeps Act.keeps_stampLaw Turn.keeps_stampLaw (fun _ _ e => e) h
    ((State.stampLaw_iff s).2 hs))

/-- Settles O2: no act touches the queue of commands, time passes only forward, and `runTo_clock`. -/
theorem commandsKeepQueueAndComplete : Obligations.CommandsKeepQueueAndComplete := by
  refine ⟨fun c s t h => ?_, fun s hs => ?_, fun c s => ?_⟩
  · have course := exec_course h
    exact ⟨course.keeps (P := fun v => v.pending = s.pending) (fun v w a e => (a.keeps_pending v w).trans e)
        (fun v w a e => (a.keeps_pending v w).trans e) rfl,
      course.keeps (P := fun v => s.clock ≤ v.clock) (fun v w a e => (a.keeps_clock v w).symm ▸ e)
        (fun v w a e => e.trans (a.clock_le v w)) (Nat.le_refl _)⟩
  · have same : (s.elapse 1).pending = s.pending :=
      (s.elapse_course 1).keeps (P := fun v => v.pending = s.pending) (fun v w a e => (a.keeps_pending v w).trans e)
        (fun v w a e => (a.keeps_pending v w).trans e) rfl
    refine ⟨s.elapse 1, ?_, same.trans hs, s.elapse_clock 1⟩
    unfold step
    rw [hs]
  · cases c with
    | hostCramWrite dt addr bytes =>
      by_cases fits : addr + bytes.length ≤ Config.cramSize
      · exact .inl ⟨_, if_pos fits⟩
      · exact .inr ⟨dt, addr, bytes, rfl, Nat.lt_of_not_le fits, if_neg fits⟩
    | _ => exact .inl ⟨_, rfl⟩

/-- Settles O1: the step is by definition `exec` of the front command on the rest. -/
theorem stepRunsFrontCommand : Obligations.StepRunsFrontCommand := fun _ _ _ => rfl

/-- Settles O60: every law is a finite check on the state after reset. -/
theorem resetSatisfiesTheLaws : Obligations.ResetSatisfiesTheLaws := by
  unfold Obligations.ResetSatisfiesTheLaws LatchLaw IrqLaw RunLaw LevelLaw TableLaw ConservationLaw TrackingLaw FlushLaw NodeLaw
    OrderLaw StampLaw
  refine ⟨State.reset_cram_wf, by decide +kernel, by decide +kernel, by decide +kernel, by decide +kernel, by decide +kernel,
    by decide +kernel, by decide +kernel, by decide +kernel, rfl, ⟨by decide +kernel, fun n hn => absurd hn List.not_mem_nil⟩, by decide +kernel, by decide +kernel⟩

end Sys2Proof.Machine


/-! # Resets (O3 to O6) -/

namespace Sys2Proof.Machine

open Safety

/-! ## The taking of a reset -/

/-- R189: what a part reset keeps of CRAM. -/
theorem Memory.read_keptByPartReset (m : Memory) (a : Nat) :
    (m.keep keptByPartReset).read a =
      if (0x08000 ≤ a ∧ a < 0x10000) ∨ (0x10000 ≤ a ∧ a < 0x20000 ∧ 0x40 ≤ a % 0x1000) then m.read a else 0 := by
  rw [Memory.read_keep]
  refine if_congr ?_ rfl rfl
  rw [keptByPartReset, Bool.or_eq_true, decide_eq_true_iff, decide_eq_true_iff]
  exact Iff.rfl

theorem State.ctrlWrite_partReset {s : State} {v : Word} (hr : s.resetting = none) (hv : v.getLsbD 0 = true) :
    s.ctrlWrite v = s.partReset := by
  simp [State.ctrlWrite, hr, hv]

theorem State.functionReset_none {s : State} (hr : s.resetting = none) : s.functionReset = s.partReset := by
  simp [State.functionReset, hr]

/-- Settles O3: the record a reset leaves at its taking, field by field; a part reset differs by what R175 keeps. -/
theorem resetsTaken : Obligations.ResetsTaken := by
  refine ⟨fun dt s => ⟨(s.elapse dt).powerOn, rfl, ?_⟩, fun dt v s => ?_⟩
  · refine ⟨rfl, rfl, rfl, rfl, rfl, rfl, rfl, rfl, rfl, rfl, rfl, fun k => Table.get_fill _ k, rfl, rfl, rfl, rfl, rfl,
      fun k => Table.get_fill _ k, rfl, rfl, fun k => Table.get_fill _ k, rfl, rfl, fun k => Table.get_fill _ k, rfl, rfl,
      rfl, rfl, rfl, rfl, rfl, rfl, fun k => Table.get_fill _ k, ?_, fun k => Table.get_fill _ k, rfl, rfl, rfl, rfl, rfl,
      rfl⟩
    exact Present.firstCause_none rfl rfl rfl fun k => Table.get_fill _ k
  · intro u hr hv
    refine ⟨u.partReset, u.powerOn, ?_, ?_, rfl, rfl, Memory.read_keptByPartReset u.cram⟩
    · exact congrArg Host.Outcome.next (State.ctrlWrite_partReset hr hv)
    · exact congrArg Host.Outcome.next (State.functionReset_none hr)

/-! ## A reset in progress -/

theorem State.newsRead_resetting {s : State} (h : s.resetting.isSome = true) :
    s.newsRead 0 4 = { s with readData := 4 } := by
  have shown : coveredBytes s.newsShown 0 4 = 4 := by
    rw [State.newsShown, if_pos h]
    decide
  unfold State.newsRead
  rw [shown]
  exact if_pos h

theorem State.setTripIn_resetting {s : State} (high : Bool) (h : s.resetting.isSome = true) :
    s.setTripIn high = { s with tripIn := high } := by
  unfold State.setTripIn
  exact if_pos (by simp [h])

/-- Settles O4: every entry of the host asks first whether a reset is in progress. -/
theorem resetInProgressIgnoresTheHost : Obligations.ResetInProgressIgnoresTheHost := by
  intro dt s r u hr
  have h : u.resetting.isSome = true := by rw [hr]; rfl
  have ctrl (v : Word) : u.ctrlWrite v = u := if_pos h
  refine ⟨fun v => ?_, fun v => ?_, fun v => ?_, fun addr bytes fits => ?_, fun bs => ?_, ?_, fun a => if_pos h, ?_, ?_, ?_⟩
  · exact congrArg Host.Outcome.next (ctrl v)
  · exact congrArg Host.Outcome.next (ctrl v)
  · exact congrArg Host.Outcome.next (if_pos h)
  · exact (if_pos fits).trans (congrArg Host.Outcome.next (State.hostWrite_resetting addr bytes h))
  · exact congrArg Host.Outcome.next (State.receive_resetting bs h)
  · exact congrArg Host.Outcome.next (State.newsRead_resetting h)
  · exact congrArg Host.Outcome.next (State.setTripIn_resetting false h)
  · exact congrArg Host.Outcome.next (State.setTripIn_resetting true h)
  · have again : u.functionReset = u.takeReset r.kind r.runBefore := by simp [State.functionReset, hr]
    exact ⟨_, congrArg Host.Outcome.next again, rfl, rfl⟩

/-! ## Words of a written list -/

theorem Memory.readWords_getD (m : Memory) (a n i : Nat) (h : i < n) : (m.readWords a n).getD i 0 = m.readWord (a + 4 * i) := by
  induction n generalizing a i with
  | zero => omega
  | succ n ih =>
    cases i with
    | zero => rfl
    | succ i =>
      rw [Memory.readWords, List.getD_cons_succ, ih _ _ (by omega)]
      congr 1
      omega

theorem Memory.readWord_writeWords (m : Memory) (a : Nat) (ws : List Word) (i : Nat) (h : i < ws.length) :
    (m.writeWords a ws).readWord (a + 4 * i) = ws.getD i 0 := by
  rw [← Memory.readWords_getD _ _ _ _ h, Memory.readWords_writeWords]

theorem Memory.readWords_congr {m m' : Memory} {a n : Nat} (h : ∀ i < n, m.readWord (a + 4 * i) = m'.readWord (a + 4 * i)) :
    m.readWords a n = m'.readWords a n := by
  induction n generalizing a with
  | zero => rfl
  | succ n ih =>
    have head := h 0 (by omega)
    have tail := ih (a := a + 4) fun i hi => by
      have := h (i + 1) (by omega)
      rwa [show a + 4 * (i + 1) = a + 4 + 4 * i by omega] at this
    rw [Memory.readWords, Memory.readWords, tail]
    congr 1

theorem Memory.readWords_writeWords_outside (m : Memory) (lo : Nat) (ws : List Word) (a n : Nat)
    (h : a + 4 * n ≤ lo ∨ lo + 4 * ws.length ≤ a) : (m.writeWords lo ws).readWords a n = m.readWords a n :=
  Memory.readWords_congr fun i hi => Memory.readWord_writeWords_outside _ _ _ _ (by omega)

/-! ## What a reset's completion writes -/

/-- R158: the page headers written after a reset. -/
theorem Memory.readWord_resetPages_header (m : Memory) (p : Fin 16) (j : Nat) (h : j < 5) :
    m.resetPages.readWord (pageBase p + 4 * j) = (headerAfterReset p).getD j 0 := by
  have length (q : Nat) : (headerAfterReset q).length = 5 := by unfold headerAfterReset; split <;> rfl
  have pages (n : Nat) (hn : p.val < n) :
      ((List.range n).foldl (fun m p => m.writeWords (0x10000 + 0x1000 * p) (headerAfterReset p)) m).readWord
        (pageBase p + 4 * j) = (headerAfterReset p).getD j 0 := by
    induction n with
    | zero => omega
    | succ n ih =>
      rw [List.range_succ, List.foldl_append]
      rcases Nat.lt_succ_iff_lt_or_eq.1 hn with hp | rfl
      · exact (Memory.readWord_writeWords_outside _ _ _ _ (.inl (by simp only [pageBase]; omega))).trans (ih hp)
      · exact Memory.readWord_writeWords _ _ _ _ (by rw [length]; exact h)
  exact pages 16 p.isLt

theorem Memory.readWord_completed_pages (m : Memory) (trip status : List Word) (hs : status.length = 564) (p : Fin 16)
    (j : Nat) (h : j < 5) : (m.completed trip status).readWord (pageBase p + 4 * j) = (headerAfterReset p).getD j 0 := by
  have base : 0x10000 ≤ pageBase p := by simp only [pageBase]; omega
  rw [Memory.readWord_completed _ _ _ _ (by omega), Memory.readWord_writeWords_outside _ _ _ _ (.inr (by omega)),
    Memory.readWord_writeWords_outside _ _ _ _ (.inr (by simp [armWordAt]; omega)),
    Memory.readWord_resetPages_header _ _ _ h]

theorem Memory.readWord_completed_capture (m : Memory) (trip status : List Word) (j : Nat) (h : j < 5) :
    (m.completed trip status).readWord (armWordAt + 4 * j) = [armArmed, 0, 0, 0, 0].getD j 0 := by
  rw [Memory.readWord_completed _ _ _ _ (by simp only [armWordAt]; omega),
    Memory.readWord_writeWords_outside _ _ _ _ (.inl (by simp only [armWordAt]; omega)),
    Memory.readWord_writeWords _ _ _ _ h]

theorem Memory.readWord_completed_directory (m : Memory) (trip status : List Word) (j : Nat) (h : j < 21) :
    (m.completed trip status).readWord (0 + 4 * j) = directoryWords.getD j 0 :=
  Memory.readWord_writeWords _ _ _ _ h

theorem Memory.readWords_completed_trip (m : Memory) {trip : List Word} (status : List Word) (ht : trip.length = 65) :
    (m.completed trip status).readWords 0x00400 65 = trip := by
  rw [← ht, Memory.readWords_congr (m' := m.writeWords 0x00400 trip), Memory.readWords_writeWords]
  exact fun i hi => Memory.readWord_completed_trip _ _ _ _ (by omega) (by omega)

theorem Memory.readWords_completed_status (m : Memory) (trip : List Word) {status : List Word} (hs : status.length = 564) :
    (m.completed trip status).readWords 0x01000 564 = status := by
  rw [← hs, Memory.completed, Memory.readWords_writeWords_outside _ _ _ _ _ (.inr (by rw [directoryWords_length]; omega)),
    Memory.readWords_writeWords]

/-- R184: what of a state the status area's words do not show: the status area itself among CRAM, its write number, the
clock and the model's own fields. -/
theorem statusWords_congr {s t : State} (n : Word) (hord : t.ord = s.ord) (hlnk : t.lnk = s.lnk) (hstands : t.stu.stands = s.stu.stands)
    (hactive : t.stu.active = s.stu.active) (hpending : t.stu.pending = s.stu.pending) (htrk : t.trk = s.trk)
    (hgap : t.gap = s.gap) (htrp : t.trp = s.trp) (hevc : t.evc = s.evc) (hrpt : t.rpt = s.rpt)
    (hviol : t.hif.violations = s.hif.violations) (hlast : t.hif.last = s.hif.last)
    (hpage : t.pageState s.rpt.current = s.pageState s.rpt.current) : statusWords t n = statusWords s n := by
  have stands : standWords t = standWords s := by
    funext k
    have slot (u : Use) : t.slotOf u = s.slotOf u := by cases u <;> simp [State.slotOf, hactive, hpending]
    simp only [standWords, State.stand, State.inService, State.entryOf, State.schedOf, hstands, slot]
  have header : headerWords t n = headerWords s n := by
    simp only [headerWords, State.switchProgress, State.stand, hord, hlnk, hstands, hactive, hpending, htrk, hgap, htrp,
      hevc, hrpt, hviol, hlast, hpage]
  simp only [statusWords, header, queueWords, windowWords, logWords, hord, hlnk, htrk, hgap, hevc, stands]

/-- R189: the status words a reset's completion writes show the state it leaves. -/
theorem State.completeReset_status {s : State} {r : ResetInProgress} (h : s.resetting = some r) :
    statusWords s.completeReset (s.hif.statusNumber + 1) = statusWords s.beforeStatus (s.hif.statusNumber + 1) := by
  rw [State.completeReset_eq h]
  refine statusWords_congr _ rfl rfl rfl rfl rfl rfl rfl rfl rfl rfl rfl rfl ?_
  have header := Memory.readWord_completed_pages s.cram (tripWords 1 s.beforeStatus.trp)
    (statusWords s.beforeStatus (s.hif.statusNumber + 1)) (statusWords_length _ _) s.rpt.current 0 (by omega)
  refine header.trans (Eq.symm ?_)
  show (Memory.writeWords _ armWordAt _).readWord _ = _
  have base : 0x10000 ≤ pageBase s.beforeStatus.rpt.current := by simp only [pageBase]; omega
  rw [Memory.readWord_writeWords_outside _ _ _ _ (.inr (by simp [armWordAt]; omega))]
  exact Memory.readWord_resetPages_header _ _ 0 (by omega)

/-- Settles O5: the words of the completed CRAM, read back area by area. -/
theorem resetCompletionWrites : Obligations.ResetCompletionWrites := by
  intro dt s r u hr
  refine ⟨u.completeReset, rfl, ?_⟩
  have status := State.completeReset_status hr
  have e := State.completeReset_eq hr
  generalize u.completeReset = t at status e
  subst e
  have length := statusWords_length u.beforeStatus (u.hif.statusNumber + 1)
  obtain ⟨ws, firstWords, _⟩ := statusWords_eq u.beforeStatus (u.hif.statusNumber + 1)
  have stamps := Memory.readWords_completed_status u.cram (tripWords 1 u.beforeStatus.trp) length
  have stamp (i : Nat) (hi : i < 564) := (Memory.readWords_getD _ _ _ i hi).symm.trans (congrArg (·.getD i 0) stamps)
  have directory := u.cram.readWord_completed_directory (tripWords 1 u.beforeStatus.trp)
    (statusWords u.beforeStatus (u.hif.statusNumber + 1))
  have capture := u.cram.readWord_completed_capture (tripWords 1 u.beforeStatus.trp)
    (statusWords u.beforeStatus (u.hif.statusNumber + 1))
  have page := u.cram.readWord_completed_pages (tripWords 1 u.beforeStatus.trp) _ length
  refine ⟨rfl, rfl, rfl, rfl, fun high => ?_, fun low => ?_, ?_, directory 0 (by omega), directory 1 (by omega),
    directory 2 (by omega), capture 0 (by omega), fun i hi => ?_, ?_, ?_, ?_, fun p => ?_⟩
  · exact if_pos high
  · show (u.trp.atCompletion u.tripIn).list = _ ∧ (u.trp.atCompletion u.tripIn).present.external = _ ∧
      (u.trp.atCompletion u.tripIn).firstOut = _ ∧ (u.trp.atCompletion u.tripIn).latch = _
    rw [low]
    exact ⟨rfl, rfl, rfl, rfl⟩
  · exact Memory.readWords_completed_trip _ _ (tripWords_length _ _)
  · have := capture (i + 1) (by omega)
    rw [show armWordAt + 4 * (i + 1) = 0x00104 + 4 * i by simp only [armWordAt]; omega] at this
    refine this.trans ?_
    interval_cases i <;> rfl
  · exact stamps.trans status.symm
  · exact (stamp 0 (by omega)).trans (by rw [firstWords]; rfl)
  · exact (stamp 1 (by omega)).trans (by rw [firstWords]; rfl)
  · have header (j : Nat) (hj : j < 5) := page p j hj
    rw [headerAfterReset] at header
    by_cases hp : p = 0
    · subst hp
      exact ⟨header 0 (by omega), header 1 (by omega), header 2 (by omega), header 3 (by omega), header 4 (by omega)⟩
    · have : p.val ≠ 0 := fun e => hp (Fin.ext e)
      simp only [if_neg this] at header
      simp only [if_neg hp]
      exact ⟨header 0 (by omega), header 1 (by omega), header 2 (by omega), header 3 (by omega), header 4 (by omega)⟩

/-- The state after reset, taken again and all but completed. -/
def State.resetAgain : State := State.reset.powerOn.beforeStatus

/-- What the completion of a power-on reset writes, computed. -/
theorem Memory.completed_afterPowerOn :
    Memory.completed [] (tripWords 1 State.resetAgain.trp) (statusWords State.resetAgain 1) = Memory.afterPowerOn := by
  decide +kernel

/-- Right after the taking of a reset nothing is due. -/
theorem State.takeReset_settled (s : State) (kind : ResetKind) (runBefore : RunState) :
    Settled (s.takeReset kind runBefore) := by
  refine ⟨fun d t h => ?_, rfl⟩
  cases d with
  | resetCompletion =>
    obtain rfl : s.clock + Config.resetTime = t := Option.some.inj h
    exact Nat.le_add_right _ _
  | _ => exact nomatch h

/-- The status words that the completion of a power-on reset with TRIP_IN high writes show no field of the model's own. -/
theorem State.powerOn_status {u : State} (high : u.tripIn = true) :
    u.powerOn.beforeStatus.trp = State.resetAgain.trp ∧
    statusWords u.powerOn.beforeStatus 1 = statusWords State.resetAgain 1 := by
  have trp : u.powerOn.beforeStatus.trp = State.resetAgain.trp := if_pos high
  have cram : u.powerOn.beforeStatus.cram = State.resetAgain.cram := by
    show Memory.beforeStatus [] (tripWords 1 u.powerOn.beforeStatus.trp) = Memory.beforeStatus [] (tripWords 1 State.resetAgain.trp)
    rw [trp]
  refine ⟨trp, statusWords_congr _ rfl rfl rfl rfl rfl rfl rfl trp rfl rfl rfl rfl ?_⟩
  rw [State.pageState, State.pageState, State.word, State.word, cram]

/-- A power-on reset completed with TRIP_IN high leaves the state after reset, but for the model's own fields. -/
theorem State.powerOn_completed {u : State} (high : u.tripIn = true) :
    { u.powerOn.completeReset with
      pending := [], clock := 0, freeCount := 0, irqSignals := 0, readData := 0, linkOut := []
      stu := { u.powerOn.completeReset.stu with nextSerial := 0 } } = State.reset := by
  obtain ⟨trp, status⟩ := State.powerOn_status high
  have cram := Memory.completed_afterPowerOn
  rw [← trp, ← status] at cram
  have taken : u.powerOn.resetting = some ⟨.powerOn, u.clock, .halted⟩ := rfl
  rw [State.completeReset_eq taken, State.reset, State.mk.injEq]
  exact ⟨rfl, rfl, rfl, rfl, rfl, high, rfl, rfl, rfl, rfl, rfl, rfl, rfl, cram, rfl, rfl, rfl, rfl, rfl, rfl, rfl, trp, rfl,
    rfl, rfl, rfl⟩

/-- Settles O6: a reset taken is settled, so that no time passes before its completion, and the completed record is State.reset. -/
theorem completedPowerOnIsReset : Obligations.CompletedPowerOnIsReset := by
  intro dt s high
  have still : (s.elapse dt).powerOn.elapse 0 = (s.elapse dt).powerOn := State.elapse_zero (State.takeReset_settled _ _ _)
  refine ⟨(s.elapse dt).powerOn, (s.elapse dt).powerOn.completeReset, rfl, ?_, State.powerOn_completed high⟩
  exact congrArg (fun x : State => Host.Outcome.next x.completeReset) still

end Sys2Proof.Machine


/-! # Registers (O7) -/

namespace Sys2Proof.Machine

open Safety

/-- R185: NEWS_EN keeps the seven bits that NEWS has. -/
theorem News.ofWord_word (w : Word) : (News.ofWord w).word = w &&& 0x7F := by
  have seven : ∀ x : BitVec 7, (News.ofWord (x.setWidth 32)).word = x.setWidth 32 := by decide +kernel
  have low : (w.setWidth 7).setWidth 32 = w &&& 0x7F := by
    apply BitVec.eq_of_toNat_eq
    simp only [BitVec.toNat_setWidth, BitVec.toNat_and]
    change _ = w.toNat &&& 2 ^ 7 - 1
    rw [Nat.and_two_pow_sub_one_eq_mod]
    omega
  have bits : News.ofWord ((w.setWidth 7).setWidth 32) = News.ofWord w := by simp [News.ofWord]
  rw [← low, ← bits, seven]

theorem State.newsEnWrite_none {s : State} (hr : s.resetting = none) (v : Word) :
    s.newsEnWrite v = State.followIrq { s with newsEn := News.ofWord v } := by
  simp [State.newsEnWrite, hr]

/-- R187: a read from byte 0 on covers every bit NEWS has. -/
theorem coveredBytes_news_first (n : News) {count : Nat} (h : 0 < count) (h4 : count ≤ 4) :
    coveredBytes n.word 0 count = n.word := by
  have every : ∀ a b c d e f g : Bool, ∀ k : Fin 4, coveredBytes (News.word ⟨a, b, c, d, e, f, g⟩) 0 (k.val + 1) =
      News.word ⟨a, b, c, d, e, f, g⟩ := by decide +kernel
  obtain ⟨k, rfl⟩ : ∃ k, count = k + 1 := ⟨count - 1, by omega⟩
  exact every _ _ _ _ _ _ _ ⟨k, by omega⟩

/-- R187: a read that leaves byte 0 out covers no bit of NEWS. -/
theorem coveredBytes_news_later (n : News) {first count : Nat} (h : first ≠ 0) (h4 : first + count ≤ 4) :
    coveredBytes n.word first count = 0 := by
  have every : ∀ a b c d e f g : Bool, ∀ k : Fin 4, ∀ m : Fin 4,
      coveredBytes (News.word ⟨a, b, c, d, e, f, g⟩) (k.val + 1) m.val = 0 := by decide +kernel
  obtain ⟨k, rfl⟩ : ∃ k, first = k + 1 := ⟨first - 1, by omega⟩
  exact every _ _ _ _ _ _ _ ⟨k, by omega⟩ ⟨count, by omega⟩

/-- R187: the bits read as 1 are cleared but TRIP. -/
theorem News.afterRead_word (n : News) : n.afterRead n.word = ⟨false, false, n.trip, false, false, false, false⟩ := by
  have every : ∀ a b c d e f g : Bool, News.afterRead ⟨a, b, c, d, e, f, g⟩ (News.word ⟨a, b, c, d, e, f, g⟩) =
      ⟨false, false, c, false, false, false, false⟩ := by decide +kernel
  exact every _ _ _ _ _ _ _

theorem News.afterRead_zero (n : News) : n.afterRead 0 = n := by simp [News.afterRead]

theorem State.newsRead_none {s : State} (hr : s.resetting = none) (first count : Nat) :
    s.newsRead first count = State.withNews { s with readData := coveredBytes s.news.word first count }
      (s.news.afterRead (coveredBytes s.news.word first count)) := by
  simp [State.newsRead, State.newsShown, hr]

/-- R188: the request stays as it is, and is signalled no further, where NEWS stays as it is. -/
theorem State.withNews_self {s : State} (h : IrqLaw s) : s.withNews s.news = s := by
  have signals : (s.news.meets s.newsEn && !s.irq) = false := by rw [h]; simp
  unfold State.withNews State.followIrq
  simp only [signals]
  rw [← h]
  simp

/-- R188: a read of NEWS from byte 0 on leaves TRIP, and with it what of the request stands. -/
theorem State.withNews_trip {s : State} (h : IrqLaw s) :
    s.withNews ⟨false, false, s.news.trip, false, false, false, false⟩ =
      { s with news := ⟨false, false, s.news.trip, false, false, false, false⟩, irq := s.news.trip && s.newsEn.trip } := by
  have meets : News.meets ⟨false, false, s.news.trip, false, false, false, false⟩ s.newsEn = (s.news.trip && s.newsEn.trip) := by
    simp [News.meets]
  unfold State.withNews State.followIrq
  simp only [meets]
  simp only [State.mk.injEq, true_and, and_true, ite_eq_right_iff, Bool.and_eq_true, Bool.not_eq_true']
  rintro ⟨⟨trip, enabled⟩, quiet⟩
  rw [h, News.meets, trip, enabled] at quiet
  simp at quiet

theorem State.registerWrite_ignored (s : State) {offset : Nat} {bytes : List Byte} (h : ignoredWrite offset bytes.length = true) :
    s.registerWrite offset bytes = s := by
  unfold State.registerWrite
  split
  · simp only [ignoredWrite, List.length_cons, List.length_nil] at h
    have h4 : offset ≠ 0x04 := by rintro rfl; simp at h
    have hC : offset ≠ 0x0C := by rintro rfl; simp at h
    rw [if_neg h4, if_neg hC]
  · rfl

theorem State.readRegister_getD (s : State) (offset : Nat) {count i : Nat} (h : i < count) :
    (s.readRegister offset count).getD i 0 = s.registerByte (offset + i) := by
  simp [State.readRegister, List.getD_eq_getElem?_getD, h]

/-- The byte of a register at an offset, with the register that covers it named. -/
theorem State.registerByte_of (s : State) {a r : Nat} (h : a / 4 * 4 = r) :
    s.registerByte a = (s.registerWord r).extractLsb' (8 * (a - r)) 8 := by
  unfold State.registerByte
  rw [h, show a % 4 = a - r by omega]

/-- Settles O7: the values of NEWS and NEWS_EN are seven bits, checked for all of them; the rest by register. -/
theorem registersReadAndWrite : Obligations.RegistersReadAndWrite := by
  refine ⟨fun dt v s => ?_, fun dt first count s => ?_, fun dt offset bytes s h => ?_, fun s offset count i hi => ?_⟩
  · intro u hr
    exact ⟨News.ofWord v, News.ofWord_word v, congrArg Host.Outcome.next (State.newsEnWrite_none hr v)⟩
  · intro u hr law hc h4
    refine ⟨fun first0 => ?_, fun later => ?_⟩
    · refine congrArg Host.Outcome.next ?_
      rw [State.newsRead_none hr, first0, coveredBytes_news_first _ hc (by omega), News.afterRead_word]
      exact State.withNews_trip (s := { u with readData := u.news.word }) law
    · refine congrArg Host.Outcome.next ?_
      rw [State.newsRead_none hr, coveredBytes_news_later _ later h4, News.afterRead_zero]
      exact State.withNews_self (s := { u with readData := 0 }) law
  · exact congrArg Host.Outcome.next (State.registerWrite_ignored _ h)
  · intro a shown
    refine ⟨s.readRegister_length _ _, ?_⟩
    rw [s.readRegister_getD offset hi]
    change s.registerByte a = _
    have word (r : Nat) (lo : r ≤ a) (hi : a < r + 4) (h4 : r % 4 = 0) :
        s.registerByte a = (s.registerWord r).extractLsb' (8 * (a - r)) 8 := s.registerByte_of (by omega)
    rcases Nat.lt_or_ge a 4 with h0 | h0
    · rw [if_pos h0]
      exact word 0 (by omega) (by omega) rfl
    rw [if_neg (by omega)]
    rcases Nat.lt_or_ge a 8 with h1 | h1
    · rw [if_pos h1, word 4 h0 (by omega) rfl]
      cases hr : s.resetting <;> simp [shown, State.registerWord, hr]
    rw [if_neg (by omega)]
    rcases Nat.lt_or_ge a 12 with h2 | h2
    · rw [if_pos h2, word 8 h1 (by omega) rfl]
      cases hr : s.resetting <;> simp [shown, State.registerWord, State.newsShown, hr]
      rfl
    rw [if_neg (by omega)]
    rcases Nat.lt_or_ge a 16 with h3 | h3
    · rw [if_pos h3, word 12 h2 (by omega) rfl]
      cases hr : s.resetting <;> simp [shown, State.registerWord, hr]
    rw [if_neg (by omega)]
    rcases Nat.lt_or_ge a 20 with h4 | h4
    · rw [if_pos h4, word 16 h3 (by omega) rfl]
      cases hr : s.resetting <;> simp [shown, State.registerWord, hr]
    rw [if_neg (by omega), s.registerByte_of rfl]
    have none_shown : s.registerWord (a / 4 * 4) = 0 := by
      unfold State.registerWord
      rw [if_neg (show a / 4 * 4 ≠ 0x04 by omega), if_neg (show a / 4 * 4 ≠ 0x0C by omega),
        if_neg (show a / 4 * 4 ≠ 0x10 by omega), if_neg (show a / 4 * 4 ≠ 0x00 by omega),
        if_neg (show a / 4 * 4 ≠ 0x08 by omega)]
      exact ite_self 0
    rw [none_shown]
    simp

end Sys2Proof.Machine


/-! # Host writes of CRAM (O9 to O11) -/

namespace Sys2Proof.Machine

open Safety

/-! ## The words a write touches -/

theorem mem_touchedWords {addr n a : Nat} (h : a % 4 = 0) :
    a ∈ touchedWords addr n ↔ n ≠ 0 ∧ addr < a + 4 ∧ a < addr + n := by
  unfold touchedWords
  split
  · next e => simp [e]
  · simp only [List.mem_map, List.mem_range]
    constructor
    · rintro ⟨i, hi, rfl⟩
      omega
    · rintro ⟨h0, lo, hi⟩
      exact ⟨a / 4 - addr / 4, by omega, by omega⟩

/-- A write of bytes of one word touches that word. -/
theorem touchedWords_one {addr n : Nat} (h0 : n ≠ 0) (h : addr + n ≤ addr / 4 * 4 + 4) :
    touchedWords addr n = [addr / 4 * 4] := by
  rw [touchedWords, if_neg h0, show (addr + n - 1) / 4 - addr / 4 + 1 = 1 by omega]
  show [4 * (addr / 4 + 0)] = _
  rw [Nat.add_zero, Nat.mul_comm]

/-- A write that ends at a word's end touches its own words first, and then those of what follows it. -/
theorem touchedWords_append {addr n m : Nat} (hn : n ≠ 0) (hm : m ≠ 0) (h : (addr + n) % 4 = 0) :
    touchedWords addr (n + m) = touchedWords addr n ++ touchedWords (addr + n) m := by
  unfold touchedWords
  rw [if_neg (by omega), if_neg hn, if_neg hm,
    show (addr + (n + m) - 1) / 4 - addr / 4 + 1 =
      ((addr + n - 1) / 4 - addr / 4 + 1) + ((addr + n + m - 1) / 4 - (addr + n) / 4 + 1) by omega,
    List.range_add, List.map_append, List.map_map]
  refine congrArg _ (List.map_congr_left fun i _ => ?_)
  simp only [Function.comp_apply]
  omega

theorem slotBase_le (i : Fin 32) : 0x02000 ≤ slotBase i ∧ slotBase i + 0x80 ≤ 0x03000 := by
  simp only [slotBase]
  omega

/-! ## One word of a write -/

/-- R172: the bytes a word of a write takes. -/
theorem State.writePart_read (s : State) (addr : Nat) (bytes : List Byte) (w a : Nat) :
    (s.writePart addr bytes w).cram.read a =
      if (w ≤ a ∧ a < w + 4) ∧ addr ≤ a ∧ a < addr + bytes.length then bytes.getD (a - addr) 0 else s.cram.read a := by
  show (s.cram.write (max addr w) ((bytes.drop (max addr w - addr)).take (w + 4 - max addr w))).read a = _
  rw [Memory.read_write]
  have length : ((bytes.drop (max addr w - addr)).take (w + 4 - max addr w)).length =
      min (w + 4 - max addr w) (bytes.length - (max addr w - addr)) := by simp
  rw [length]
  by_cases h : (w ≤ a ∧ a < w + 4) ∧ addr ≤ a ∧ a < addr + bytes.length
  · rw [if_pos h, if_pos (by omega), List.getD_eq_getElem?_getD, List.getD_eq_getElem?_getD,
      List.getElem?_take_of_lt (by omega), List.getElem?_drop]
    congr 2
    omega
  · rw [if_neg h, if_neg (by omega)]

/-- R172: a full write of a word. -/
theorem fullValue_wordBytes (a : Nat) (v : Word) : fullValue a (wordBytes v) a = some v := by
  have covered : (coveredPart a (wordBytes v) a).2 = wordBytes v := by
    show ((wordBytes v).drop (max a a - a)).take (a + 4 - max a a) = _
    rw [Nat.max_self, Nat.sub_self, Nat.add_sub_cancel_left]
    rfl
  unfold fullValue
  rw [covered]
  exact congrArg some (bytesWord_wordBytes v)

/-- R172: a write of fewer than four bytes is no full write. -/
theorem fullValue_short {bytes : List Byte} (addr a : Nat) (h : bytes.length < 4) : fullValue addr bytes a = none := by
  have short : (coveredPart addr bytes a).2.length < 4 := by
    show ((bytes.drop _).take _).length < 4
    rw [List.length_take, List.length_drop]
    omega
  unfold fullValue
  split
  · next e =>
    rw [e] at short
    exact absurd short (Nat.lt_irrefl 4)
  · rfl

theorem State.hostWrite_none {s : State} (hr : s.resetting = none) (addr : Nat) (bytes : List Byte) :
    s.hostWrite addr bytes = State.hostWords addr bytes (touchedWords addr bytes.length) s := by
  simp [State.hostWrite, hr]

theorem State.hostWrite_one {s : State} {addr : Nat} {bytes : List Byte} (hr : s.resetting = none) (h0 : bytes ≠ [])
    (h : addr + bytes.length ≤ addr / 4 * 4 + 4) : s.hostWrite addr bytes = s.hostWord addr bytes (addr / 4 * 4) := by
  rw [State.hostWrite_none hr, touchedWords_one (by simpa using h0) h, State.hostWords_one]

theorem exec_hostCramWrite {dt addr : Nat} {bytes : List Byte} {s : State} (h : addr + bytes.length ≤ 0x40000) :
    exec (.hostCramWrite dt addr bytes) s = .next ((s.elapse dt).hostWrite addr bytes) := if_pos h

theorem State.hostWord_partWritten {s : State} {addr a : Nat} {bytes : List Byte} (h : wordKind a = .partWritten) :
    s.hostWord addr bytes a = s.dropWord a .partArea := by simp [State.hostWord, h]

theorem State.hostWord_unpopulated {s : State} {addr a : Nat} {bytes : List Byte} (h : wordKind a = .unpopulated) :
    s.hostWord addr bytes a = s := by simp [State.hostWord, h]

theorem State.hostWord_staging {s : State} {addr a : Nat} {bytes : List Byte} (h : wordKind a = .staging) :
    s.hostWord addr bytes a = s.writePart addr bytes a := by simp [State.hostWord, h]

theorem State.hostWord_slotRequest {s : State} {addr a : Nat} {bytes : List Byte} {i : Fin 32}
    (h : wordKind a = .slotRequest i) :
    s.hostWord addr bytes a = if s.slotState i = slotEmpty then s.writePart addr bytes a else s.dropWord a .bodyFrozen := by
  simp [State.hostWord, h]

theorem State.hostWord_slotState {s : State} {addr a : Nat} {bytes : List Byte} {i : Fin 32}
    (h : wordKind a = .slotState i) :
    s.hostWord addr bytes a = s.writeGuarded a (fullValue addr bytes a) (s.writeSlotState i) := by simp [State.hostWord, h]

theorem State.hostWord_pageState {s : State} {addr a : Nat} {bytes : List Byte} {p : Fin 16}
    (h : wordKind a = .pageState p) :
    s.hostWord addr bytes a = s.writeGuarded a (fullValue addr bytes a) (s.writePageState p) := by simp [State.hostWord, h]

theorem State.hostWord_armWord {s : State} {addr a : Nat} {bytes : List Byte} (h : wordKind a = .armWord) :
    s.hostWord addr bytes a = s.writeGuarded a (fullValue addr bytes a) s.writeArmWord := by simp [State.hostWord, h]

/-- R172: a write of a part of a guarded word is dropped. -/
theorem State.writeGuarded_none (s : State) (a : Nat) (f : Word → State) :
    s.writeGuarded a none f = s.dropWord a .subWord := rfl

/-! ## Words that take their bytes -/

/-- R175: the words of a write that lie in the staging area take their bytes, and nothing else changes. -/
theorem State.hostWords_staging (addr : Nat) (bytes : List Byte) (ws : List Nat) (s : State)
    (h : ∀ w ∈ ws, wordKind w = .staging) :
    State.hostWords addr bytes ws s = { s with cram := (State.hostWords addr bytes ws s).cram } ∧
    ∀ a, (State.hostWords addr bytes ws s).cram.read a =
      if (∃ w ∈ ws, w ≤ a ∧ a < w + 4) ∧ addr ≤ a ∧ a < addr + bytes.length then bytes.getD (a - addr) 0
      else s.cram.read a := by
  induction ws generalizing s with
  | nil => exact ⟨rfl, fun a => by rw [if_neg (by simp)]; rfl⟩
  | cons w ws ih =>
    obtain ⟨hw, later⟩ := List.forall_mem_cons.1 h
    have whole : State.hostWords addr bytes (w :: ws) s = State.hostWords addr bytes ws (s.writePart addr bytes w) := by
      cases ws with
      | nil => exact State.hostWord_staging hw
      | cons b ws =>
        show State.hostWords addr bytes (b :: ws) (match wordKind w with
          | .slotState _ => (s.hostWord addr bytes w).actOrders 64
          | _ => s.hostWord addr bytes w) = _
        rw [State.hostWord_staging hw, hw]
    obtain ⟨same, read⟩ := ih (s.writePart addr bytes w) later
    rw [whole]
    refine ⟨same.trans rfl, fun a => ?_⟩
    rw [read, State.writePart_read]
    by_cases inside : addr ≤ a ∧ a < addr + bytes.length
    · simp only [inside, and_true, List.mem_cons, exists_eq_or_imp]
      by_cases here : w ≤ a ∧ a < w + 4 <;> by_cases there : ∃ w ∈ ws, w ≤ a ∧ a < w + 4 <;> simp [here, there]
    · simp only [inside, and_false, if_false]

/-! ## A write in two parts -/

/-- R178: an order that a word posts is acted on before the next word. -/
def State.beforeNext (s : State) (a : Nat) : State :=
  match wordKind a with
  | .slotState _ => s.actOrders 64
  | _ => s

theorem State.hostWords_cons (addr : Nat) (bytes : List Byte) (a : Nat) {rest : List Nat} (h : rest ≠ []) (s : State) :
    State.hostWords addr bytes (a :: rest) s =
      State.hostWords addr bytes rest ((s.hostWord addr bytes a).beforeNext a) := by
  cases rest with
  | nil => exact absurd rfl h
  | cons b rest => rfl

theorem State.hostWords_append (addr : Nat) (bytes : List Byte) (ws : List Nat) (l : Nat) {rest : List Nat} (h : rest ≠ [])
    (s : State) :
    State.hostWords addr bytes (ws ++ l :: rest) s =
      State.hostWords addr bytes rest ((State.hostWords addr bytes (ws ++ [l]) s).beforeNext l) := by
  induction ws generalizing s with
  | nil => exact State.hostWords_cons _ _ _ h s
  | cons a ws ih =>
    rw [List.cons_append, List.cons_append, State.hostWords_cons _ _ _ (by simp), State.hostWords_cons _ _ _ (by simp)]
    exact ih _

theorem State.hostWords_congr {addr addr' : Nat} {bytes bytes' : List Byte} {ws : List Nat}
    (h : ∀ a ∈ ws, coveredPart addr bytes a = coveredPart addr' bytes' a) (s : State) :
    State.hostWords addr bytes ws s = State.hostWords addr' bytes' ws s := by
  have one (a : Nat) (s : State) (e : coveredPart addr bytes a = coveredPart addr' bytes' a) :
      s.hostWord addr bytes a = s.hostWord addr' bytes' a := by
    simp only [State.hostWord, State.writePart, fullValue, e]
  induction ws generalizing s with
  | nil => rfl
  | cons a ws ih =>
    obtain ⟨ha, later⟩ := List.forall_mem_cons.1 h
    cases ws with
    | nil => exact one a s ha
    | cons b ws =>
      rw [State.hostWords_cons addr bytes a (List.cons_ne_nil b ws), State.hostWords_cons addr' bytes' a (List.cons_ne_nil b ws),
        one a s ha]
      exact ih later _

/-- The bytes of the first of two writes that a word covers. -/
theorem coveredPart_append_left {addr : Nat} {bytes : List Byte} (more : List Byte) {a : Nat}
    (h : a + 4 ≤ addr + bytes.length) : coveredPart addr (bytes ++ more) a = coveredPart addr bytes a := by
  unfold coveredPart
  simp only [Prod.mk.injEq, true_and]
  rw [List.drop_append_of_le_length (by omega), List.take_append_of_le_length (by rw [List.length_drop]; omega)]

/-- The bytes of the second of two writes that a word covers. -/
theorem coveredPart_append_right {addr : Nat} {bytes : List Byte} (more : List Byte) {a : Nat}
    (h : addr + bytes.length ≤ a) : coveredPart addr (bytes ++ more) a = coveredPart (addr + bytes.length) more a := by
  unfold coveredPart
  simp only [Nat.max_eq_right h, Nat.max_eq_right (show addr ≤ a by omega), Prod.mk.injEq, true_and]
  rw [List.drop_append, List.drop_eq_nil_of_le (by omega), List.nil_append]
  congr 2
  omega

theorem touchedWords_last {addr n : Nat} (h0 : n ≠ 0) (h : (addr + n) % 4 = 0) :
    ∃ ws, touchedWords addr n = ws ++ [addr + n - 4] := by
  rw [touchedWords, if_neg h0, List.range_succ, List.map_append]
  refine ⟨_, congrArg _ ?_⟩
  show [4 * (addr / 4 + ((addr + n - 1) / 4 - addr / 4))] = _
  congr 1
  omega

theorem State.beforeNext_does (s : State) (a : Nat) : s.Does .rest (s.beforeNext a) := by
  unfold State.beforeNext
  split
  · exact State.actOrders_does _ _
  · exact .refl s

/-- R172: a write of two parts, the first of which ends at a word's end: the second comes after what the last word of the
first has posted. -/
theorem State.hostWrite_append {s : State} {addr : Nat} {bytes more : List Byte} (hr : s.resetting = none)
    (h0 : bytes ≠ []) (hm : more ≠ []) (h : (addr + bytes.length) % 4 = 0) :
    s.hostWrite addr (bytes ++ more) =
      ((s.hostWrite addr bytes).beforeNext (addr + bytes.length - 4)).hostWrite (addr + bytes.length) more := by
  have n0 : bytes.length ≠ 0 := by simpa using h0
  have m0 : more.length ≠ 0 := by simpa using hm
  obtain ⟨ws, last⟩ := touchedWords_last n0 h
  have before := (s.hostWrite_does addr bytes).trans ((s.hostWrite addr bytes).beforeNext_does (addr + bytes.length - 4))
  have rest : touchedWords (addr + bytes.length) more.length ≠ [] := by simp [touchedWords, m0]
  have firstPart (a : Nat) (ha : a ∈ ws ++ [addr + bytes.length - 4]) :
      coveredPart addr (bytes ++ more) a = coveredPart addr bytes a := by
    rw [← last] at ha
    have aligned := (touchedWords_mem ha).1
    have within := (mem_touchedWords aligned).1 ha
    exact coveredPart_append_left more (by omega)
  have secondPart (a : Nat) (ha : a ∈ touchedWords (addr + bytes.length) more.length) :
      coveredPart addr (bytes ++ more) a = coveredPart (addr + bytes.length) more a := by
    have aligned := (touchedWords_mem ha).1
    have within := (mem_touchedWords aligned).1 ha
    exact coveredPart_append_right more (by omega)
  rw [State.hostWrite_none (before.resetting hr), State.hostWrite_none hr, State.hostWrite_none hr, List.length_append,
    touchedWords_append n0 m0 h, last, List.append_assoc, List.singleton_append, State.hostWords_append _ _ _ _ rest,
    State.hostWords_congr firstPart, State.hostWords_congr secondPart]

/-! ## The obligations -/

/-- Settles O9: a write of two parts is `State.hostWrite_append`. -/
theorem hostWritesTheirBytesWordByWord : Obligations.HostWritesTheirBytesWordByWord := by
  intro dt addr bytes s u written hr
  refine ⟨fun lo hi => ?_, fun i h0 lo hi one empty => ?_, fun more h0 hm aligned fits => ?_⟩
  · have staging (w : Nat) (hw : w ∈ touchedWords addr bytes.length) : wordKind w = .staging := by
      have h4 := (touchedWords_mem hw).1
      have within := (mem_touchedWords h4).1 hw
      exact wordKind_staging (by omega) (by omega)
    obtain ⟨same, read⟩ := State.hostWords_staging addr bytes _ u staging
    rw [← State.hostWrite_none hr] at same read
    refine ⟨u.hostWrite addr bytes, exec_hostCramWrite (by omega), same, fun a => ?_⟩
    rw [read]
    by_cases inside : addr ≤ a ∧ a < addr + bytes.length
    · rw [if_pos inside, if_pos]
      exact ⟨⟨a / 4 * 4, (mem_touchedWords (by omega)).2 (by omega), by omega⟩, inside⟩
    · rw [if_neg inside, if_neg (fun h => inside h.2)]
  · have base := slotBase_le i
    have one_word := State.hostWrite_one hr h0 one
    have n0 : 0 < bytes.length := List.length_pos_iff.2 h0
    have kind : wordKind (addr / 4 * 4) = .slotRequest i := wordKind_slotRequest (by omega) (by omega)
    rw [State.hostWord_slotRequest kind, if_pos empty] at one_word
    refine ⟨u.hostWrite addr bytes, exec_hostCramWrite (by omega), ?_, fun a => ?_⟩
    · rw [one_word]
      rfl
    · rw [one_word, State.writePart_read]
      refine if_congr ⟨And.right, fun h => ⟨by omega, h⟩⟩ rfl rfl
  · have two := State.hostWrite_append hr h0 hm aligned
    have length : (bytes ++ more).length = bytes.length + more.length := List.length_append
    have still : (u.hostWrite addr bytes).resetting = none := (u.hostWrite_does addr bytes).resetting hr
    refine ⟨u.hostWrite addr bytes, exec_hostCramWrite (by omega), fun settled => ?_, fun i at_slot posted empty => ?_⟩
    · have nothing : (u.hostWrite addr bytes).beforeNext (addr + bytes.length - 4) = u.hostWrite addr bytes := by
        unfold State.beforeNext
        split
        · have : (u.hostWrite addr bytes).orderHanded = false := by simpa [State.dueAt] using settled.2
          exact State.actOrders_none _ this
        · rfl
      rw [nothing] at two
      rw [exec_hostCramWrite (by omega), exec_hostCramWrite (by omega), State.elapse_zero settled, ← two]
    · subst posted
      rw [exec_hostCramWrite (by omega), two]
      have kind : wordKind (addr + (wordBytes slotPosted).length - 4) = .slotState i := by
        rw [at_slot]
        exact wordKind_slotBase i
      have acted : (u.hostWrite addr (wordBytes slotPosted)).beforeNext (addr + (wordBytes slotPosted).length - 4) =
          (u.hostWrite addr (wordBytes slotPosted)).actOrders 64 := by
        unfold State.beforeNext
        rw [kind]
      rw [acted]
      rfl

theorem satSucc_eq (w : Word) : satSucc w = if w = 0xFFFFFFFF then 0xFFFFFFFF else w + 1 := by
  unfold satSucc
  split
  · next h => exact h
  · rfl

/-- R174: a word dropped, with the count that stays at its greatest value. -/
theorem State.dropWord_eq (s : State) (a : Nat) (reason : Violation) :
    s.dropWord a reason = { s with hif := { s.hif with
      violations := if s.hif.violations = 0xFFFFFFFF then 0xFFFFFFFF else s.hif.violations + 1
      last := ⟨BitVec.ofNat 32 a, reason, s.time⟩ } } := by
  rw [← satSucc_eq]
  rfl

/-- Settles O10, by the kind of the word. -/
theorem droppedWordsCount : Obligations.DroppedWordsCount := by
  intro dt addr bytes s u w dropped hr h0 one
  have n0 : 0 < bytes.length := List.length_pos_iff.2 h0
  have one_word := State.hostWrite_one hr h0 one
  have runs (h : w < 0x40000) : exec (.hostCramWrite dt addr bytes) s = .next (u.hostWord addr bytes w) := by
    rw [exec_hostCramWrite (by omega)]
    exact congrArg Host.Outcome.next one_word
  refine ⟨fun h => ?_, fun h short => ?_, fun i lo hi full => ?_, fun h => ?_⟩
  · have kind : wordKind w = .partWritten := by
      rcases h with ⟨h, ne⟩ | h | h | h | h
      · rcases Nat.lt_or_ge w 0x100 with low | high
        · exact wordKind_directory low
        · exact (wordKind_capture high h).trans (if_neg ne)
      · exact wordKind_tripRecord h.1 h.2
      · exact wordKind_status h.1 h.2
      · rw [wordKind_board h.1 h.2.1, if_neg (by omega), if_neg (by omega)]
      · rw [wordKind_pages h.1 h.2.1, if_neg h.2.2]
    rw [runs (by omega), State.hostWord_partWritten kind, State.dropWord_eq]
  · have none : fullValue addr bytes w = none := fullValue_short addr w short
    rw [runs (by omega)]
    rcases h with h | h | h
    · rw [State.hostWord_armWord (by rw [h]; rfl), none, State.writeGuarded_none, State.dropWord_eq]
    · rw [State.hostWord_slotState (by rw [wordKind_board h.1 h.2.1, if_pos h.2.2]), none, State.writeGuarded_none, State.dropWord_eq]
    · rw [State.hostWord_pageState (by rw [wordKind_pages h.1 h.2.1, if_pos h.2.2]), none, State.writeGuarded_none, State.dropWord_eq]
  · have base := slotBase_le i
    rw [runs (by omega), State.hostWord_slotRequest (wordKind_slotRequest lo hi), if_neg full, State.dropWord_eq]
  · have kind : wordKind w = .unpopulated := by
      rcases h with h | h | h | h
      · exact wordKind_afterCapture h.1 h.2
      · exact wordKind_afterTripRecord h.1 h.2
      · exact wordKind_afterBoard h.1 h.2
      · exact wordKind_afterPages h.1
    rw [runs (by omega), State.hostWord_unpopulated kind]

/-- R173: what a full write of a word does, whose state word machine is `f`. -/
theorem State.writeGuarded_some (s : State) (a : Nat) (v : Word) (f : Word → State) :
    s.writeGuarded a (some v) f = if v = s.word a then s else f v := rfl

/-- Settles O11, by the three kinds of guarded words. -/
theorem guardedWordsFollowTheirTransitions : Obligations.GuardedWordsFollowTheirTransitions := by
  intro dt a v s u old dropped slot page legal hr guarded
  have aligned : a / 4 * 4 = a := by omega
  have one_word := State.hostWrite_one (addr := a) (bytes := wordBytes v) hr (by simp [wordBytes])
    (by rw [wordBytes_length]; omega)
  have put (w : Word) : ∃ t, u.putWord a w = t ∧ t = { u with cram := t.cram } ∧ t.word a = w ∧
      ∀ x, x < a ∨ a + 4 ≤ x → t.cram.read x = u.cram.read x :=
    ⟨_, rfl, rfl, Memory.readWord_writeWord _ _ _, fun x hx => Memory.read_write_outside _ _ _ _ (by rwa [wordBytes_length])⟩
  have outcome (f : Word → State) (kind : u.hostWord a (wordBytes v) a = u.writeGuarded a (fullValue a (wordBytes v) a) f)
      (taken : legal → f v = u.putWord a v) (refused : ¬ legal → ¬ (slot ∧ old = slotEmpty ∧ v = slotPosted) →
        f v = u.dropWord a .illegalTransition) :
      (v = old → exec (.hostCramWrite dt a (wordBytes v)) s = .next u) ∧
      (v ≠ old → legal → exec (.hostCramWrite dt a (wordBytes v)) s = .next (u.putWord a v)) ∧
      (v ≠ old → ¬ legal → ¬ (slot ∧ old = slotEmpty ∧ v = slotPosted) →
        exec (.hostCramWrite dt a (wordBytes v)) s = .next dropped) := by
    have runs : exec (.hostCramWrite dt a (wordBytes v)) s = .next (if v = old then u else f v) := by
      rw [exec_hostCramWrite (by rw [wordBytes_length]; omega), one_word, aligned, kind, fullValue_wordBytes,
        State.writeGuarded_some]
    refine ⟨fun e => ?_, fun e l => ?_, fun e l p => ?_⟩
    · rw [runs, if_pos e]
    · rw [runs, if_neg e, taken l]
    · rw [runs, if_neg e, refused l p, State.dropWord_eq]
  have changes : legal → v ≠ old := by
    rintro (⟨_, h, rfl⟩ | ⟨_, h, rfl⟩ | ⟨_, h, rfl⟩) e
    · rcases h with h | h <;> rw [← e] at h <;> exact absurd h (by decide)
    · rw [← e] at h; exact absurd h (by decide)
    · rw [← e] at h; exact absurd h (by decide)
  suffices h : ∃ f, u.hostWord a (wordBytes v) a = u.writeGuarded a (fullValue a (wordBytes v) a) f ∧
      (legal → f v = u.putWord a v) ∧ (¬ legal → ¬ (slot ∧ old = slotEmpty ∧ v = slotPosted) →
        f v = u.dropWord a .illegalTransition) by
    obtain ⟨f, kind, taken, refused⟩ := h
    obtain ⟨same, written, other⟩ := outcome f kind taken refused
    obtain ⟨t, e, rest⟩ := put v
    exact ⟨same, fun l => ⟨t, e ▸ written (changes l) l, rest⟩, other⟩
  rcases guarded with hs | hp | ha
  · have base := slotOf_board hs.1 hs.2.1
    rw [hs.2.2, Nat.sub_zero] at base
    refine ⟨u.writeSlotState _, State.hostWord_slotState (by rw [wordKind_board hs.1 hs.2.1, if_pos hs.2.2]), ?_, ?_⟩
    · rintro (⟨_, released, empty⟩ | ⟨h, _⟩ | ⟨h, _⟩)
      · unfold State.writeSlotState State.slotState
        rw [base, if_neg, if_pos ⟨released, empty⟩, empty]
        rintro ⟨h, _⟩
        rcases released with e | e <;> exact absurd (h.symm.trans e) (by decide)
      · exact absurd h.1 (by omega)
      · exact absurd h (by omega)
    · intro illegal notPosted
      unfold State.writeSlotState State.slotState
      rw [base, if_neg fun h => notPosted ⟨hs, h⟩, if_neg fun h => illegal (.inl ⟨hs, h⟩)]
  · have base := pageOf_pages hp.1 hp.2.1
    rw [hp.2.2, Nat.sub_zero] at base
    refine ⟨u.writePageState _, State.hostWord_pageState (by rw [wordKind_pages hp.1 hp.2.1, if_pos hp.2.2]), ?_, ?_⟩
    · rintro (⟨h, _⟩ | ⟨_, full, free⟩ | ⟨h, _⟩)
      · exact absurd h.2.1 (by omega)
      · unfold State.writePageState State.pageState
        rw [base, if_pos ⟨full, free⟩, free]
      · exact absurd h (by omega)
    · intro illegal _
      unfold State.writePageState State.pageState
      rw [base, if_neg fun h => illegal (.inr (.inl ⟨hp, h⟩))]
  · subst ha
    refine ⟨u.writeArmWord, State.hostWord_armWord rfl, ?_, ?_⟩
    · rintro (⟨h, _⟩ | ⟨h, _⟩ | ⟨_, held, armed⟩)
      · exact absurd h.1 (by omega)
      · exact absurd h.1 (by omega)
      · refine (if_pos ⟨held, armed⟩).trans ?_
        rw [armed]
        rfl
    · exact fun illegal _ => if_neg fun h => illegal (.inr (.inr ⟨rfl, h⟩))

end Sys2Proof.Machine


/-! # The order board (O12, O13) -/

namespace Sys2Proof.Machine

open Safety

/-! ## The status area -/

/-- R183: the status area shows the state its write leaves. -/
theorem State.statusWrite_status (s : State) :
    s.statusWrite.cram.readWords 0x01000 564 = statusWords s.statusWrite s.statusWrite.hif.statusNumber := by
  have length := statusWords_length s (s.hif.statusNumber + 1)
  have shown : statusWords s.statusWrite (s.hif.statusNumber + 1) = statusWords s (s.hif.statusNumber + 1) := by
    refine statusWords_congr _ rfl rfl rfl rfl rfl rfl rfl rfl rfl rfl rfl rfl ?_
    have base := pageBase_le s.rpt.current
    exact Memory.readWord_writeWords_outside _ _ _ _ (.inr (by rw [length]; simp only [pageBase]; omega))
  have back := s.cram.readWords_writeWords 0x01000 (statusWords s (s.hif.statusNumber + 1))
  rw [length] at back
  exact back.trans shown.symm

theorem State.statusWrite_read (s : State) {a : Nat} (h : a < 0x01000 ∨ 0x02000 ≤ a) :
    s.statusWrite.cram.read a = s.cram.read a :=
  Memory.read_write_outside _ _ _ _ (by rw [words_length, statusWords_length]; omega)

theorem Memory.readWord_of_read {m m' : Memory} {a : Nat} (h : ∀ i, i < 4 → m.read (a + i) = m'.read (a + i)) :
    m.readWord a = m'.readWord a := by
  unfold Memory.readWord
  rw [h 1 (by omega), h 2 (by omega), h 3 (by omega), show m.read a = m'.read a from h 0 (by omega)]

/-- R179, R183: what the status write in HALTED changes. -/
theorem State.haltedStatus_eq (s : State) : s.haltedStatus =
    { s with cram := s.haltedStatus.cram, hif := s.haltedStatus.hif } := by
  unfold State.haltedStatus
  split <;> rfl

theorem State.haltedStatus_read (s : State) {a : Nat} (h : ¬ (s.lnk.runState = .halted ∧ 0x01000 ≤ a ∧ a < 0x02000)) :
    s.haltedStatus.cram.read a = s.cram.read a := by
  unfold State.haltedStatus
  split
  · next e => exact s.statusWrite_read (by by_contra c; exact h ⟨e, by omega⟩)
  · rfl

theorem State.haltedStatus_word (s : State) {a : Nat} (h : a + 4 ≤ 0x01000 ∨ 0x02000 ≤ a) :
    s.haltedStatus.word a = s.word a :=
  Memory.readWord_of_read fun i hi => s.haltedStatus_read (by omega)

theorem State.haltedStatus_running (s : State) (h : s.lnk.runState ≠ .halted) : s.haltedStatus = s := if_neg h

theorem State.haltedStatus_halted (s : State) (h : s.lnk.runState = .halted) : s.haltedStatus = s.statusWrite := if_pos h

/-! ## Slots -/

theorem slotBase_apart {i j : Fin 32} (h : i ≠ j) : slotBase i + 0x80 ≤ slotBase j ∨ slotBase j + 0x80 ≤ slotBase i := by
  have : i.val ≠ j.val := fun e => h (Fin.ext e)
  simp only [slotBase]
  omega

theorem padWords_getD {n : Nat} {ws : List Word} (h : ws.length ≤ n) (j : Nat) : (padWords n ws).getD j 0 = ws.getD j 0 := by
  simp only [padWords, List.getD_eq_getElem?_getD]
  rcases Nat.lt_or_ge j n with hj | hj
  · rw [List.getElem?_take_of_lt hj]
    rcases Nat.lt_or_ge j ws.length with hw | hw
    · rw [List.getElem?_append_left hw]
    · rw [List.getElem?_append_right hw, List.getElem?_replicate, List.getElem?_eq_none hw]
      split <;> rfl
  · rw [List.getElem?_eq_none (by simp; omega), List.getElem?_eq_none (by omega)]

/-- R181: CRAM with an order's outcome part and state word written. -/
def Memory.outcome (m : Memory) (i : Fin 32) (o : OrderOutcome) (rs : List Word) : Memory :=
  (m.writeWords (slotBase i + 0x40) (o.code :: padWords 15 rs)).writeWord (slotBase i) (if o = .ok then slotDone else slotRefused)

/-- 10.2: a slot's state word and outcome part. -/
def slotAnswer (i : Fin 32) (a : Nat) : Prop :=
  slotBase i ≤ a ∧ a < slotBase i + 4 ∨ slotBase i + 0x40 ≤ a ∧ a < slotBase i + 0x80

theorem Memory.outcome_read (m : Memory) {i : Fin 32} (o : OrderOutcome) (rs : List Word) {a : Nat} (h : ¬ slotAnswer i a) :
    (m.outcome i o rs).read a = m.read a := by
  unfold slotAnswer at h
  have length : (o.code :: padWords 15 rs).length = 16 := by simp
  rw [Memory.outcome, Memory.writeWord, Memory.read_write_outside _ _ _ _ (by rw [wordBytes_length]; omega),
    Memory.writeWords, Memory.read_write_outside _ _ _ _ (by rw [words_length, length]; omega)]

theorem Memory.outcome_shows (m : Memory) (i : Fin 32) (o : OrderOutcome) {rs : List Word} (h : rs.length ≤ 15) :
    (m.outcome i o rs).readWord (slotBase i) = (if o = .ok then slotDone else slotRefused) ∧
    (m.outcome i o rs).readWord (slotBase i + 0x40) = o.code ∧
    ∀ j, j < 15 → (m.outcome i o rs).readWord (slotBase i + 0x44 + 4 * j) = rs.getD j 0 := by
  have length : (o.code :: padWords 15 rs).length = 16 := by simp
  have part (j : Nat) (hj : j < 16) :
      (m.outcome i o rs).readWord (slotBase i + 0x40 + 4 * j) = (o.code :: padWords 15 rs).getD j 0 := by
    rw [Memory.outcome, Memory.writeWord, Memory.readWord_write_outside _ _ _ _ (.inr (by rw [wordBytes_length]; omega)),
      Memory.readWord_writeWords _ _ _ _ (by rw [length]; exact hj)]
  refine ⟨Memory.readWord_writeWord _ _ _, part 0 (by omega), fun j hj => ?_⟩
  have := part (j + 1) (by omega)
  rwa [List.getD_cons_succ, padWords_getD h, show slotBase i + 0x40 + 4 * (j + 1) = slotBase i + 0x44 + 4 * j by omega] at this

/-- R178: CRAM with a slot TAKEN and its outcome part cleared. -/
def Memory.taken (m : Memory) (i : Fin 32) : Memory :=
  (m.writeWord (slotBase i) slotTaken).writeWords (slotBase i + 0x40) (List.replicate 16 0)

theorem Memory.taken_read (m : Memory) {i : Fin 32} {a : Nat} (h : ¬ slotAnswer i a) : (m.taken i).read a = m.read a := by
  unfold slotAnswer at h
  rw [Memory.taken, Memory.writeWords, Memory.read_write_outside _ _ _ _ (by rw [words_length, List.length_replicate]; omega),
    Memory.writeWord, Memory.read_write_outside _ _ _ _ (by rw [wordBytes_length]; omega)]

theorem Memory.taken_shows (m : Memory) (i : Fin 32) :
    (m.taken i).readWord (slotBase i) = slotTaken ∧ ∀ n, n < 16 → (m.taken i).readWord (slotBase i + 0x40 + 4 * n) = 0 := by
  refine ⟨?_, fun n hn => ?_⟩
  · rw [Memory.taken, Memory.readWord_writeWords_outside _ _ _ _ (.inl (by omega)), Memory.readWord_writeWord]
  · rw [Memory.taken, Memory.readWord_writeWords _ _ _ _ (by rw [List.length_replicate]; exact hn)]
    rw [List.getD_eq_getElem?_getD, List.getElem?_replicate, if_pos hn]
    rfl

/-! ## Taking, finishing and completing -/

theorem State.takeHead_cons {s : State} {i : Fin 32} {rest : List (Fin 32)} (h : s.ord.queue = i :: rest) :
    s.takeHead = { s with
      cram := s.cram.taken i
      ord := ⟨rest, some ⟨i, parseKind (s.word (slotBase i + 0x04)) (s.cram.readWords (slotBase i + 0x08) 14),
        s.cram.readWords (slotBase i + 0x08) 14, .handed⟩⟩ } := by
  unfold State.takeHead
  rw [h]
  rfl

theorem State.finish_taken_eq {s : State} {t : Taken} (h : s.ord.taken = some t) (o : OrderOutcome) (rs : List Word) :
    s.finish o rs = { s with
      cram := s.cram.outcome t.slot o rs
      news := { s.news with order := true }
      irq := (s.finish o rs).irq
      irqSignals := (s.finish o rs).irqSignals
      ord := ⟨s.ord.queue, none⟩ } := by
  unfold State.finish
  rw [h]
  rfl

/-- R179: a completion with no order waiting. -/
theorem State.complete_idle {s : State} (h : s.ord.queue = []) (o : OrderOutcome) (rs : List Word) :
    s.complete o rs = (s.finish o rs).haltedStatus := by
  have queue : (s.finish o rs).ord.queue = [] := by
    unfold State.finish
    split <;> exact h
  have idle : (s.finish o rs).haltedStatus.ord.taken = none := by
    rw [State.haltedStatus_ord]
    exact s.finish_taken o rs
  unfold State.complete settleOrders
  dsimp only
  rw [State.takeHead_nil queue, idle]

/-- R178, R179: a completion with an order waiting that is handed to its owner. -/
theorem State.complete_next {s : State} {j : Fin 32} {rest : List (Fin 32)} (h : (s.finish o rs).ord.queue = j :: rest)
    (hk : (parseKind ((s.finish o rs).word (slotBase j + 0x04)) ((s.finish o rs).cram.readWords (slotBase j + 0x08) 14)).rejected =
      none) : s.complete o rs = (s.finish o rs).takeHead.haltedStatus := by
  have taken := congrArg State.ord (State.takeHead_cons h)
  unfold State.complete settleOrders
  dsimp only
  rw [State.haltedStatus_ord, taken]
  dsimp only
  rw [hk]

/-- The words of a slot that another slot's answer leaves. -/
theorem Memory.outcome_word (m : Memory) {i : Fin 32} (o : OrderOutcome) (rs : List Word) {a : Nat}
    (h : a + 4 ≤ slotBase i ∨ slotBase i + 4 ≤ a ∧ a + 4 ≤ slotBase i + 0x40 ∨ slotBase i + 0x80 ≤ a) :
    (m.outcome i o rs).readWord a = m.readWord a :=
  Memory.readWord_of_read fun k hk => Memory.outcome_read _ _ _ (by unfold slotAnswer; omega)

theorem Memory.taken_word (m : Memory) {i : Fin 32} {a : Nat}
    (h : a + 4 ≤ slotBase i ∨ slotBase i + 4 ≤ a ∧ a + 4 ≤ slotBase i + 0x40 ∨ slotBase i + 0x80 ≤ a) :
    (m.taken i).readWord a = m.readWord a :=
  Memory.readWord_of_read fun k hk => Memory.taken_read _ (by unfold slotAnswer; omega)

/-- A slot shows what CRAM holds in it. -/
theorem SlotShows.of_words {s : State} {m : Memory} {i : Fin 32} {st : Word} {o : OrderOutcome} {rs : List Word}
    (hw : ∀ a, slotBase i ≤ a → a + 4 ≤ slotBase i + 0x80 → s.word a = m.readWord a) (hst : m.readWord (slotBase i) = st)
    (ho : m.readWord (slotBase i + 0x40) = o.code) (hr : ∀ j, j < 15 → m.readWord (slotBase i + 0x44 + 4 * j) = rs.getD j 0) :
    SlotShows s i st o rs :=
  ⟨(hw _ (by omega) (by omega)).trans hst, (hw _ (by omega) (by omega)).trans ho,
    fun j hj => (hw _ (by omega) (by omega)).trans (hr j hj)⟩

/-- Settles O13: the outcome and the state word lie apart from the next slot and from the status area. -/
theorem completionWritesTheOutcome : Obligations.CompletionWritesTheOutcome := by
  intro s t o rs ht short e reaches
  have fin := State.finish_taken_eq ht o rs
  obtain ⟨shownState, shownOutcome, shownResults⟩ := s.cram.outcome_shows t.slot o short
  have after (x : State) (taken : List (Fin 32)) (he : e = x.haltedStatus)
      (hx : x = { s with cram := x.cram, ord := x.ord, news := { s.news with order := true }, irq := x.irq,
                         irqSignals := x.irqSignals })
      (hw : ∀ a, slotBase t.slot ≤ a → a + 4 ≤ slotBase t.slot + 0x80 → x.word a = (s.cram.outcome t.slot o rs).readWord a)
      (hr : ∀ a, (∀ j ∈ t.slot :: taken, ¬ slotAnswer j a) → x.cram.read a = s.cram.read a) : reaches taken x.ord := by
    have lnk : x.lnk = s.lnk := by rw [hx]
    have hif : x.hif = s.hif := by rw [hx]
    have base := slotBase_le t.slot
    refine ⟨SlotShows.of_words (fun a lo hi => ?_) shownState shownOutcome shownResults, ?_, fun running => ?_,
      fun halted => ⟨?_, ?_⟩, fun a apart still => ?_⟩
    · rw [he, x.haltedStatus_word (by omega)]
      exact hw a lo hi
    · have frame : e = { x with cram := e.cram, hif := e.hif } := he ▸ x.haltedStatus_eq
      have irq : e.irq = x.irq := (congrArg State.irq frame).trans rfl
      have signals : e.irqSignals = x.irqSignals := (congrArg State.irqSignals frame).trans rfl
      rw [irq, signals]
      exact frame.trans (congrArg (fun y : State => { y with cram := e.cram, hif := e.hif }) hx)
    · rw [he, x.haltedStatus_running (by rwa [lnk]), hif]
    · rw [he, x.haltedStatus_halted (by rwa [lnk]), State.statusWrite_hif, hif]
    · rw [he, x.haltedStatus_halted (by rwa [lnk])]
      exact x.statusWrite_status
    · rw [he, x.haltedStatus_read (by rwa [lnk])]
      refine hr a fun j hj => ?_
      obtain ⟨h1, h2⟩ := apart j hj
      exact fun h => h.elim h1 h2
  refine ⟨fun hq => ?_, fun j rest hq other => ?_⟩
  · have ord : (s.finish o rs).ord = ⟨[], none⟩ := by rw [fin, hq]
    rw [← ord]
    refine after _ [] (State.complete_idle hq o rs) (by rw [fin]) (fun a _ _ => by rw [fin]; rfl) fun a apart => ?_
    rw [fin]
    exact Memory.outcome_read _ _ _ (apart t.slot (by simp))
  · dsimp only
    intro hk
    have apart := slotBase_apart other
    have queue : (s.finish o rs).ord.queue = j :: rest := by rw [fin, hq]
    have kindWord : (s.finish o rs).word (slotBase j + 0x04) = s.word (slotBase j + 0x04) := by
      rw [fin]
      exact Memory.outcome_word _ _ _ (by omega)
    have args : (s.finish o rs).cram.readWords (slotBase j + 0x08) 14 = s.cram.readWords (slotBase j + 0x08) 14 := by
      rw [fin]
      exact Memory.readWords_congr fun i hi => Memory.outcome_word _ _ _ (by omega)
    have head := State.takeHead_cons queue
    rw [kindWord, args] at head
    have next := State.complete_next queue (by rw [kindWord, args]; exact hk)
    have cram : (s.finish o rs).takeHead.cram = (s.cram.outcome t.slot o rs).taken j := by rw [head, fin]
    have base := slotBase_le j
    obtain ⟨takenState, takenPart⟩ := (s.cram.outcome t.slot o rs).taken_shows j
    refine ⟨?_, ?_, fun n hn => ?_⟩
    · have ord : (s.finish o rs).takeHead.ord = ⟨rest, some ⟨j, parseKind (s.word (slotBase j + 0x04))
          (s.cram.readWords (slotBase j + 0x08) 14), s.cram.readWords (slotBase j + 0x08) 14, .handed⟩⟩ := by rw [head]
      rw [← ord]
      refine after _ [j] next (by rw [head, fin]) (fun a lo hi => ?_) fun a clear => ?_
      · rw [State.word, cram]
        exact Memory.taken_word _ (by omega)
      · rw [cram, Memory.taken_read _ (clear j (by simp)), Memory.outcome_read _ _ _ (clear t.slot (by simp))]
    · show e.word (slotBase j) = _
      rw [show e = _ from next, State.haltedStatus_word _ (by omega), State.word, cram]
      exact takenState
    · rw [show e = _ from next, State.haltedStatus_word _ (by omega), State.word, cram]
      exact takenPart n hn

/-- R177: a full write of POSTED to an EMPTY slot. -/
theorem exec_postOrder {dt : Nat} {i : Fin 32} {s : State} (hr : (s.elapse dt).resetting = none)
    (he : (s.elapse dt).slotState i = slotEmpty) :
    exec (.hostCramWrite dt (slotBase i) (wordBytes slotPosted)) s =
      .next (((s.elapse dt).putWord (slotBase i) slotPosted).post i) := by
  generalize hu : s.elapse dt = u at hr he
  have base := slotBase_le i
  have aligned : slotBase i / 4 * 4 = slotBase i := by simp only [slotBase]; omega
  have one := State.hostWrite_one (addr := slotBase i) (bytes := wordBytes slotPosted) hr (by simp [wordBytes])
    (by rw [wordBytes_length]; omega)
  have ne : ¬ slotPosted = u.word (slotBase i) := by
    rw [show u.word (slotBase i) = slotEmpty from he]
    decide
  rw [exec_hostCramWrite (by rw [wordBytes_length]; omega), hu, one, aligned,
    State.hostWord_slotState (wordKind_slotBase i), fullValue_wordBytes, State.writeGuarded_some, if_neg ne]
  unfold State.writeSlotState
  rw [if_pos ⟨he, rfl⟩]

/-- R177: a slot POSTED joins the queue. -/
def State.queued (s : State) (i : Fin 32) : State :=
  { s with cram := s.cram.writeWord (slotBase i) slotPosted, ord := { s.ord with queue := s.ord.queue ++ [i] } }

theorem State.post_waits {s : State} {i : Fin 32} (h : s.ord.taken ≠ none) :
    (s.putWord (slotBase i) slotPosted).post i = s.queued i := by
  obtain ⟨t, ht⟩ := Option.ne_none_iff_exists'.1 h
  unfold State.post State.queued
  dsimp only [State.putWord_ord]
  rw [ht]
  rfl

/-- R178: what a taking leaves in a slot just POSTED, and leaves around it. -/
theorem State.queued_takeHead {s : State} {i : Fin 32} (h : s.ord = ⟨[], none⟩) :
    (s.queued i).takeHead = { s with
      cram := (s.cram.writeWord (slotBase i) slotPosted).taken i
      ord := ⟨[], some ⟨i, parseKind (s.word (slotBase i + 0x04)) (s.cram.readWords (slotBase i + 0x08) 14),
        s.cram.readWords (slotBase i + 0x08) 14, .handed⟩⟩ } := by
  have queue : (s.queued i).ord.queue = i :: [] := by simp [State.queued, h]
  have kindWord : (s.queued i).word (slotBase i + 0x04) = s.word (slotBase i + 0x04) :=
    Memory.readWord_write_outside _ _ _ _ (.inr (by rw [wordBytes_length]))
  have args : (s.queued i).cram.readWords (slotBase i + 0x08) 14 = s.cram.readWords (slotBase i + 0x08) 14 :=
    Memory.readWords_congr fun k hk => Memory.readWord_write_outside _ _ _ _ (.inr (by rw [wordBytes_length]; omega))
  rw [State.takeHead_cons queue, kindWord, args]
  rfl

/-- R178: with ORD idle and its queue empty a POSTED order is taken at once. -/
theorem State.post_taken {s : State} {i : Fin 32} (h : s.ord = ⟨[], none⟩) :
    (s.putWord (slotBase i) slotPosted).post i =
      match (parseKind (s.word (slotBase i + 0x04)) (s.cram.readWords (slotBase i + 0x08) 14)).rejected with
      | none => (s.queued i).takeHead
      | some r => (s.queued i).takeHead.complete r.1 r.2 := by
  have head := congrArg State.ord (State.queued_takeHead (i := i) h)
  have idle : (s.queued i).ord.taken = none := by simp [State.queued, h]
  show (match (s.queued i).ord.taken with
    | some _ => s.queued i
    | none =>
      match (s.queued i).takeHead.ord.taken with
      | none => (s.queued i).takeHead
      | some t =>
        match t.kind.rejected with
        | none => (s.queued i).takeHead
        | some r => (s.queued i).takeHead.complete r.1 r.2) = _
  rw [idle, head]

/-- 11.3: the kind of an order whose kind word names one of the ten. -/
theorem parseKind_of_ten {kind : Word} {args : List Word} {k : OrderKind}
    (h : (kind = 1 ∧ k = .linkConfigure) ∨ (kind = 2 ∧ args.getD 0 0 = 1 ∧ k = .runState .halt) ∨
      (kind = 2 ∧ args.getD 0 0 = 2 ∧ k = .runState .ready) ∨ (kind = 2 ∧ args.getD 0 0 = 3 ∧ k = .runState .run) ∨
      (kind = 3 ∧ k = .loadSchedule) ∨ (kind = 4 ∧ k = .cancelPending) ∨ (kind = 5 ∧ k = .setMode) ∨
      (kind = 6 ∧ k = .operatorTrim) ∨ (kind = 7 ∧ k = .nodeRejoin) ∨ (kind = 8 ∧ k = .tripReset) ∨
      (kind = 9 ∧ k = .counterProgram) ∨ (kind = 10 ∧ k = .closePage)) :
    parseKind kind args = k ∧ k.rejected = none := by
  have run {w : Word} {t : Target} (ha : args.getD 0 0 = w) (ht : targetOf w = some t) :
      parseKind 2 args = .runState t := by
    show (match targetOf (args.getD 0 0) with
      | some t => OrderKind.runState t
      | none => .badTarget) = _
    rw [ha, ht]
  rcases h with ⟨rfl, rfl⟩ | ⟨rfl, ha, rfl⟩ | ⟨rfl, ha, rfl⟩ | ⟨rfl, ha, rfl⟩ | ⟨rfl, rfl⟩ | ⟨rfl, rfl⟩ | ⟨rfl, rfl⟩ |
    ⟨rfl, rfl⟩ | ⟨rfl, rfl⟩ | ⟨rfl, rfl⟩ | ⟨rfl, rfl⟩ | ⟨rfl, rfl⟩
  case inr.inl => exact ⟨run ha rfl, rfl⟩
  case inr.inr.inl => exact ⟨run ha rfl, rfl⟩
  case inr.inr.inr.inl => exact ⟨run ha rfl, rfl⟩
  all_goals exact ⟨rfl, rfl⟩

/-- 11.3: a kind word that names none of the ten. -/
theorem parseKind_of_none {kind : Word} {args : List Word} (h : kind = 0 ∨ 10 < kind.toNat) :
    parseKind kind args = .badKind kind := by
  unfold parseKind
  split
  case h_11 => rfl
  all_goals
    next e =>
      rcases h with rfl | h
      · exact absurd e (by decide)
      · omega

theorem targetOf_none {w : Word} (h : w = 0 ∨ 3 < w.toNat) : targetOf w = none := by
  have ne (v : Word) (hv : 1 ≤ v.toNat ∧ v.toNat ≤ 3) : w ≠ v := by
    rintro rfl
    rcases h with rfl | h
    · exact absurd hv.1 (by decide)
    · omega
  rw [targetOf, if_neg (ne 1 (by decide)), if_neg (ne 2 (by decide)), if_neg (ne 3 (by decide))]

/-- R178, R181: an order refused at its taking, ORD's queue being empty. -/
theorem State.post_refused {s : State} {i : Fin 32} (h : s.ord = ⟨[], none⟩) {o : OrderOutcome} {rs : List Word}
    (hk : (parseKind (s.word (slotBase i + 0x04)) (s.cram.readWords (slotBase i + 0x08) 14)).rejected = some (o, rs))
    (ho : o ≠ .ok) (short : rs.length ≤ 15) :
    let t := (s.putWord (slotBase i) slotPosted).post i
    SlotShows t i slotRefused o rs ∧ t.ord = ⟨[], none⟩ ∧ t.news.order = true := by
  have post := State.post_taken (i := i) h
  rw [hk] at post
  dsimp only at post ⊢
  rw [post]
  have ord := congrArg State.ord (State.queued_takeHead (i := i) h)
  generalize (s.queued i).takeHead = x at ord
  have queue : x.ord.queue = [] := congrArg OrderUnit.queue ord
  have taken := congrArg OrderUnit.taken ord
  have fin := State.finish_taken_eq taken o rs
  rw [State.complete_idle queue]
  have base := slotBase_le i
  obtain ⟨shownState, shownOutcome, shownResults⟩ := x.cram.outcome_shows i o short
  rw [if_neg ho] at shownState
  refine ⟨SlotShows.of_words (fun a lo hi => ?_) shownState shownOutcome shownResults, ?_, ?_⟩
  · rw [State.haltedStatus_word _ (by omega), fin]
    rfl
  · rw [State.haltedStatus_ord, fin, queue]
  · rw [State.haltedStatus_eq, fin]

/-- Settles O12: whether ORD waits, then what the kind word and the target of the order taken name. -/
theorem postedOrderIsQueuedTakenOrRefused : Obligations.PostedOrderIsQueuedTakenOrRefused := by
  intro dt i s u
  dsimp only
  intro hr he
  have runs : exec (.hostCramWrite dt (slotBase i) (wordBytes slotPosted)) s =
      .next ((u.putWord (slotBase i) slotPosted).post i) := exec_postOrder hr he
  have target : (u.cram.readWords (slotBase i + 0x08) 14).getD 0 0 = u.word (slotBase i + 0x08) :=
    Memory.readWords_getD _ _ _ _ (by omega)
  refine ⟨fun waits => ?_, fun idle => ⟨fun k names => ?_, fun bad => ?_, fun run bad => ?_⟩⟩
  · refine ⟨u.queued i, runs.trans (congrArg _ (State.post_waits waits)), rfl, Memory.readWord_writeWord _ _ _, fun a ha => ?_⟩
    exact Memory.read_write_outside _ _ _ _ (by rwa [wordBytes_length])
  · obtain ⟨kind, accepted⟩ := parseKind_of_ten (args := u.cram.readWords (slotBase i + 0x08) 14) (by rw [target]; exact names)
    have post := State.post_taken (i := i) idle
    have head := State.queued_takeHead (i := i) idle
    rw [kind, accepted] at post
    rw [kind] at head
    obtain ⟨takenState, takenPart⟩ := (u.cram.writeWord (slotBase i) slotPosted).taken_shows i
    refine ⟨(u.queued i).takeHead, runs.trans (congrArg _ post), by rw [head], ?_, fun j hj => ?_, fun a ha => ?_⟩
    · rw [head]
      exact takenState
    · rw [head]
      exact takenPart j hj
    · rw [head]
      exact (Memory.taken_read _ (by unfold slotAnswer; omega)).trans
        (Memory.read_write_outside _ _ _ _ (by rw [wordBytes_length]; omega))
  · exact ⟨_, runs, State.post_refused idle (by rw [parseKind_of_none bad]; rfl) (by decide) (Nat.le_add_left 1 14)⟩
  · have kind : parseKind (u.word (slotBase i + 0x04)) (u.cram.readWords (slotBase i + 0x08) 14) = .badTarget := by
      rw [run]
      show (match targetOf ((u.cram.readWords (slotBase i + 0x08) 14).getD 0 0) with
        | some t => OrderKind.runState t
        | none => .badTarget) = _
      rw [target, targetOf_none bad]
    obtain ⟨⟨shownState, shownOutcome, shownResults⟩, ord, news⟩ :=
      State.post_refused (o := .badArgument) (rs := [0x0A, 0]) idle (by rw [kind]; rfl) (by decide) (by decide)
    refine ⟨_, runs, ⟨shownState, shownOutcome, fun j hj => (shownResults j hj).trans ?_⟩, ord, news⟩
    rcases j with _ | _ | j <;> rfl

end Sys2Proof.Machine


/-! # Link orders (O14 to O17, O25) -/

namespace Sys2Proof.Machine

open Safety

/-! ## LINK_CONFIGURE: the checks of a link record -/

theorem firstEntryFault_eq_none {es : List (Nat × Nat × Nat)} (h : ∀ e ∈ es, entryFault e = none) (i : Nat) :
    firstEntryFault i es = none := by
  induction es generalizing i with
  | nil => rfl
  | cons e es ih =>
    obtain ⟨he, later⟩ := List.forall_mem_cons.1 h
    rw [firstEntryFault, he]
    exact ih later _

/-- R24 check 6 names the entry at fault that comes first. -/
theorem firstEntryFault_eq_some {es : List (Nat × Nat × Nat)} {j : Nat} (hj : j < es.length) {code : Nat}
    (before : ∀ k (hk : k < j), entryFault es[k] = none) (h : entryFault es[j] = some code) (i : Nat) :
    firstEntryFault i es = some (code, i + j) := by
  induction es generalizing i j with
  | nil => exact absurd hj (Nat.not_lt_zero _)
  | cons e es ih =>
    cases j with
    | zero =>
      rw [firstEntryFault, show entryFault e = some code from h]
      rfl
    | succ j =>
      rw [firstEntryFault, show entryFault e = none from before 0 (Nat.succ_pos _)]
      refine (ih (by simpa using hj) (fun k hk => before (k + 1) (Nat.succ_lt_succ hk)) h (i + 1)).trans ?_
      rw [show i + 1 + j = i + (j + 1) by omega]

/-- R24 checks 7 and 8 in common: the index, counted from `i`, of the first element that passes `p` and stands in `seen` or
earlier in the list. -/
def firstRepeat {α : Type} [DecidableEq α] (p : α → Bool) : Nat → List α → List α → Option Nat
  | _, _, [] => none
  | i, seen, x :: xs => if p x = true ∧ x ∈ seen then some i else firstRepeat p (i + 1) (x :: seen) xs

theorem firstAddressRepeat_eq (i : Nat) (seen xs : List Nat) :
    firstAddressRepeat i seen xs = firstRepeat (fun _ => true) i seen xs := by
  induction xs generalizing i seen with
  | nil => rfl
  | cons x xs ih =>
    rw [firstAddressRepeat, firstRepeat, ih]
    simp

theorem firstRoleRepeat_eq (i : Nat) (seen xs : List (Nat × Nat)) :
    firstRoleRepeat i seen xs = firstRepeat (fun x => decide (x.1 ≠ 4)) i seen xs := by
  induction xs generalizing i seen with
  | nil => rfl
  | cons x xs ih =>
    rw [firstRoleRepeat, firstRepeat, ih]
    simp

section
variable {α : Type} [DecidableEq α] {p : α → Bool}

theorem firstRepeat_eq_none {xs seen : List α} (i : Nat)
    (h : ∀ k (hk : k < xs.length), p xs[k] = true → xs[k] ∉ seen ∧ ∀ a (ha : a < k), xs[a] ≠ xs[k]) :
    firstRepeat p i seen xs = none := by
  induction xs generalizing i seen with
  | nil => rfl
  | cons x xs ih =>
    have fresh := h 0 (Nat.succ_pos _)
    rw [firstRepeat, if_neg fun c => (fresh c.1).1 c.2]
    refine ih _ fun k hk hp => ?_
    obtain ⟨unseen, apart⟩ := h (k + 1) (Nat.succ_lt_succ hk) hp
    refine ⟨fun c => ?_, fun a ha => apart (a + 1) (Nat.succ_lt_succ ha)⟩
    rcases List.mem_cons.1 c with e | c
    · exact apart 0 (Nat.succ_pos _) e.symm
    · exact unseen c

theorem firstRepeat_eq_some {xs seen : List α} (i : Nat) {k : Nat} (hk : k < xs.length)
    (before : ∀ b (hb : b < k), p xs[b] = true → xs[b] ∉ seen ∧ ∀ a (ha : a < b), xs[a] ≠ xs[b]) (hp : p xs[k] = true)
    (h : xs[k] ∈ seen ∨ ∃ a, ∃ ha : a < k, xs[a] = xs[k]) : firstRepeat p i seen xs = some (i + k) := by
  induction xs generalizing i seen k with
  | nil => exact absurd hk (Nat.not_lt_zero _)
  | cons x xs ih =>
    cases k with
    | zero =>
      rcases h with h | ⟨a, ha, _⟩
      · exact if_pos ⟨hp, h⟩
      · exact absurd ha (Nat.not_lt_zero _)
    | succ k =>
      have fresh := before 0 (Nat.succ_pos _)
      rw [firstRepeat, if_neg fun c => (fresh c.1).1 c.2]
      refine (ih (i + 1) (by simpa using hk) (fun b hb hp => ?_) hp ?_).trans (by rw [show i + 1 + k = i + (k + 1) by omega])
      · obtain ⟨unseen, apart⟩ := before (b + 1) (Nat.succ_lt_succ hb) hp
        refine ⟨fun c => ?_, fun a ha => apart (a + 1) (Nat.succ_lt_succ ha)⟩
        rcases List.mem_cons.1 c with e | c
        · exact apart 0 (Nat.succ_pos _) e.symm
        · exact unseen c
      · rcases h with h | ⟨a, ha, e⟩
        · exact .inl (List.mem_cons_of_mem _ h)
        · cases a with
          | zero => exact .inl (List.mem_cons.2 (.inl e.symm))
          | succ a => exact .inr ⟨a, by omega, e⟩

end

/-! ### One entry -/

section
variable {a r st : Nat}

theorem entryFault_address (h : ¬ (1 ≤ a ∧ a ≤ 254)) : entryFault (a, r, st) = some 0x07 := by
  rw [entryFault, decide_eq_false h]
  rfl

theorem entryFault_role (h : 1 ≤ a ∧ a ≤ 254) (hr : ¬ (1 ≤ r ∧ r ≤ 4)) : entryFault (a, r, st) = some 0x08 := by
  have role : roleOf r = none := by
    unfold roleOf
    split
    case h_5 => rfl
    all_goals omega
  rw [entryFault, decide_eq_true h]
  simp [role]

theorem entryFault_stand (h : 1 ≤ a ∧ a ≤ 254) (hr : 1 ≤ r ∧ r ≤ 4) :
    entryFault (a, r, st) = if (r = 4 → st = 0) ∧ (r ≠ 4 → 1 ≤ st ∧ st ≤ 7) then none else some 0x09 := by
  rw [entryFault, decide_eq_true h]
  obtain ⟨lo, hi⟩ := hr
  interval_cases r <;> simp [roleOf]

end

/-! ### The record -/

/-- 11.4: the node entries of a link record as read. -/
def linkEntries (m : Memory) (offset count : Nat) : List (Nat × Nat × Nat) := (List.range count).map (readNodeEntry m offset)

theorem readNodeEntry_eq (m : Memory) (offset j : Nat) :
    readNodeEntry m offset j = ((m.read (0x08000 + offset + 0x14 + 4 * j)).toNat,
      (m.read (0x08000 + offset + 0x15 + 4 * j)).toNat, (m.read (0x08000 + offset + 0x16 + 4 * j)).toNat) := by
  have second : 0x08000 + offset + 0x14 + 4 * j + 1 = 0x08000 + offset + 0x15 + 4 * j := by omega
  have third : 0x08000 + offset + 0x14 + 4 * j + 2 = 0x08000 + offset + 0x16 + 4 * j := by omega
  rw [← second, ← third]
  rfl

@[simp] theorem linkEntries_length (m : Memory) (offset count : Nat) : (linkEntries m offset count).length = count := by
  simp [linkEntries]

@[simp] theorem linkEntries_getElem (m : Memory) (offset count j : Nat) (h : j < (linkEntries m offset count).length) :
    (linkEntries m offset count)[j] = readNodeEntry m offset j := by simp [linkEntries]

/-- R24 checks 6 to 9 and the record's content. -/
def linkTable (m : Memory) (offset cyc rd cmd warn count : Nat) : Except (List Word) (List Node × Timing × Nat) :=
  let entries := linkEntries m offset count
  match firstEntryFault 1 entries with
  | some (code, i) => .error [natWord code, natWord i]
  | none =>
    match firstAddressRepeat 1 [] (entries.map (·.1)) with
    | some i => .error [0x07, natWord i]
    | none =>
      match firstRoleRepeat 1 [] (entries.map (·.2)) with
      | some i => .error [0x08, natWord i]
      | none =>
        if (entries.filter (fun e => e.2.1 == 4)).length = 1 then .ok (entries.map entryNode, ⟨cyc, rd, cmd⟩, warn)
        else .error [0x08, 0]

/-- R24: checks 3 to 5 of a link record, and those of its table. -/
theorem readLinkRecord_eq (m : Memory) (offset : Nat) :
    let w (i : Nat) : Nat := (m.readWord (0x08000 + offset + 4 * i)).toNat
    let warn := if w 3 = 0 then 96 else w 3
    readLinkRecord m offset =
      if ¬ (1 ≤ w 4 ∧ w 4 ≤ 24) then .error [0x02, 0]
      else if ¬ (250 ≤ w 0 ∧ w 0 ≤ 2000 ∧ w 0 % 50 = 0) then .error [0x03, 0]
      else if ¬ (50 ≤ w 1 ∧ w 1 + 50 ≤ w 0) then .error [0x04, 0]
      else if ¬ (w 1 + 8 ≤ w 2 ∧ w 2 + 40 ≤ w 0) then .error [0x05, 0]
      else if ¬ (1 ≤ warn ∧ warn ≤ 127) then .error [0x06, 0]
      else linkTable m offset (w 0) (w 1) (w 2) warn (w 4) := by
  intro w warn
  have bool (P : Prop) [Decidable P] : ((!decide P) = true) = ¬ P := by simp
  unfold readLinkRecord
  simp only [bool]
  rfl

section
variable {m : Memory} {offset cyc rd cmd warn count : Nat}

/-- The entry at index j of a link record is without fault. -/
def EntryOk (m : Memory) (offset j : Nat) : Prop := entryFault (readNodeEntry m offset j) = none

theorem linkTable_fault {j : Nat} (hj : j < count) {code : Nat} (before : ∀ k < j, EntryOk m offset k)
    (h : entryFault (readNodeEntry m offset j) = some code) :
    linkTable m offset cyc rd cmd warn count = .error [natWord code, natWord (j + 1)] := by
  have fault : firstEntryFault 1 (linkEntries m offset count) = some (code, j + 1) := by
    rw [firstEntryFault_eq_some (j := j) (code := code) (by simpa) (fun k hk => by rw [linkEntries_getElem]; exact before k hk)
      (by simpa), Nat.add_comm]
  unfold linkTable
  dsimp only
  rw [fault]

theorem linkEntries_sound (ok : ∀ j < count, EntryOk m offset j) : firstEntryFault 1 (linkEntries m offset count) = none :=
  firstEntryFault_eq_none (fun e he => by
    obtain ⟨j, hj, rfl⟩ := List.mem_map.1 he
    exact ok j (List.mem_range.1 hj)) 1

theorem linkTable_address (ok : ∀ j < count, EntryOk m offset j) {k : Nat} (hk : k < count)
    (before : ∀ b < k, ∀ a < b, (readNodeEntry m offset a).1 ≠ (readNodeEntry m offset b).1) {a : Nat} (ha : a < k)
    (h : (readNodeEntry m offset a).1 = (readNodeEntry m offset k).1) :
    linkTable m offset cyc rd cmd warn count = .error [0x07, natWord (k + 1)] := by
  have repeats : firstAddressRepeat 1 [] ((linkEntries m offset count).map (·.1)) = some (k + 1) := by
    rw [firstAddressRepeat_eq, firstRepeat_eq_some (k := k) 1 (by simpa) (fun b hb _ => ?_) rfl (.inr ⟨a, ha, by simpa⟩), Nat.add_comm]
    exact ⟨List.not_mem_nil, fun c hc => by simpa using before b hb c hc⟩
  unfold linkTable
  dsimp only
  rw [linkEntries_sound ok, repeats]

theorem linkEntries_addresses
    (addresses : ∀ b < count, ∀ a < b, (readNodeEntry m offset a).1 ≠ (readNodeEntry m offset b).1) :
    firstAddressRepeat 1 [] ((linkEntries m offset count).map (·.1)) = none := by
  rw [firstAddressRepeat_eq]
  refine firstRepeat_eq_none 1 fun b hb _ => ⟨List.not_mem_nil, fun c hc => ?_⟩
  simpa using addresses b (by simpa using hb) c hc

theorem linkTable_role (ok : ∀ j < count, EntryOk m offset j)
    (addresses : ∀ b < count, ∀ a < b, (readNodeEntry m offset a).1 ≠ (readNodeEntry m offset b).1) {k : Nat} (hk : k < count)
    (before : ∀ b < k, (readNodeEntry m offset b).2.1 ≠ 4 → ∀ a < b, (readNodeEntry m offset a).2 ≠ (readNodeEntry m offset b).2)
    (hr : (readNodeEntry m offset k).2.1 ≠ 4) {a : Nat} (ha : a < k)
    (h : (readNodeEntry m offset a).2 = (readNodeEntry m offset k).2) :
    linkTable m offset cyc rd cmd warn count = .error [0x08, natWord (k + 1)] := by
  have repeats : firstRoleRepeat 1 [] ((linkEntries m offset count).map (·.2)) = some (k + 1) := by
    rw [firstRoleRepeat_eq, firstRepeat_eq_some (k := k) 1 (by simpa) (fun b hb hp => ?_) (by simpa) (.inr ⟨a, ha, by simpa⟩),
      Nat.add_comm]
    exact ⟨List.not_mem_nil, fun c hc => by simpa using before b hb (by simpa using hp) c hc⟩
  unfold linkTable
  dsimp only
  rw [linkEntries_sound ok, linkEntries_addresses addresses, repeats]

/-- R24 check 9: how many entries are EXIT_GAUGE. -/
theorem linkEntries_gauges : ((linkEntries m offset count).filter (fun e => e.2.1 == 4)).length =
    ((List.range count).filter (fun j => (readNodeEntry m offset j).2.1 = 4)).length := by
  rw [linkEntries, List.filter_map, List.length_map]
  refine congrArg List.length (List.filter_congr fun j _ => ?_)
  rw [Bool.eq_iff_iff]
  simp

/-- R24: past the first eight checks the ninth decides. -/
theorem linkTable_last (ok : ∀ j < count, EntryOk m offset j)
    (addresses : ∀ b < count, ∀ a < b, (readNodeEntry m offset a).1 ≠ (readNodeEntry m offset b).1)
    (roles : ∀ b < count, (readNodeEntry m offset b).2.1 ≠ 4 → ∀ a < b, (readNodeEntry m offset a).2 ≠ (readNodeEntry m offset b).2) :
    linkTable m offset cyc rd cmd warn count =
      if ((List.range count).filter (fun j => (readNodeEntry m offset j).2.1 = 4)).length = 1 then
        .ok ((linkEntries m offset count).map entryNode, ⟨cyc, rd, cmd⟩, warn)
      else .error [0x08, 0] := by
  have apart : firstRoleRepeat 1 [] ((linkEntries m offset count).map (·.2)) = none := by
    rw [firstRoleRepeat_eq]
    refine firstRepeat_eq_none 1 fun b hb hp => ⟨List.not_mem_nil, fun c hc => ?_⟩
    simpa using roles b (by simpa using hb) (by simpa using hp) c hc
  unfold linkTable
  dsimp only
  rw [linkEntries_sound ok, linkEntries_addresses addresses, apart, linkEntries_gauges]

end

/-! ## Orders handed to their owner -/

/-- R179: an order's owner answers it. -/
theorem State.answerOrder_handed {s : State} {i : Fin 32} {kind : OrderKind} {args : List Word}
    (h : s.ord.taken = some ⟨i, kind, args, .handed⟩) (owner : State → Taken → Answer) :
    s.answerOrder kind owner = State.completeWith (owner s ⟨i, kind, args, .handed⟩) :=
  State.answerOrder_of owner h rfl

theorem stagingOffsetOk_iff {offset size : Nat} : stagingOffsetOk offset size = true ↔ offset % 4 = 0 ∧ offset + size ≤ 0x8000 := by
  rw [stagingOffsetOk, Bool.and_eq_true, decide_eq_true_iff, beq_iff_eq]
  exact Iff.rfl

/-- Settles O15: check by check. -/
theorem linkConfigureRefusals : Obligations.LinkConfigureRefusals := by
  intro s i args offset base w address role stand addressOk roleOk standOk sameAddress sameRole refused ht
  let t : Taken := ⟨i, .linkConfigure, args, .handed⟩
  have answers {o : OrderOutcome} {rs : List Word} (h : answerLinkConfigure s t = (s, o, rs)) : refused o rs := by
    show Host.Outcome.next (s.answerOrder .linkConfigure answerLinkConfigure) = _
    rw [State.answerOrder_handed ht, h]
    rfl
  split
  · next running => exact answers (if_pos running)
  next halted =>
  split
  · next bad =>
    refine answers ((if_neg halted).trans (if_pos ?_))
    rw [Bool.not_eq_true', Bool.eq_false_iff]
    exact fun h => bad (stagingOffsetOk_iff.1 h)
  next placed =>
  have record {rs : List Word} (h : readLinkRecord s.cram offset = .error rs) : refused .badArgument rs := by
    refine answers ((if_neg halted).trans ((if_neg ?_).trans ?_))
    · rw [Bool.not_eq_true', Bool.not_eq_false]
      exact stagingOffsetOk_iff.2 (not_not.1 placed)
    · show (match readLinkRecord s.cram offset with
        | .error results => (s, OrderOutcome.badArgument, results)
        | .ok r => (s.linkStart r.1 (some r.2.1) r.2.2, .ok, [])) = _
      rw [h]
  have eq := readLinkRecord_eq s.cram offset
  dsimp only at eq
  change readLinkRecord s.cram offset =
      if ¬ (1 ≤ w 4 ∧ w 4 ≤ 24) then .error [0x02, 0]
      else if ¬ (250 ≤ w 0 ∧ w 0 ≤ 2000 ∧ w 0 % 50 = 0) then .error [0x03, 0]
      else if ¬ (50 ≤ w 1 ∧ w 1 + 50 ≤ w 0) then .error [0x04, 0]
      else if ¬ (w 1 + 8 ≤ w 2 ∧ w 2 + 40 ≤ w 0) then .error [0x05, 0]
      else if ¬ (1 ≤ (if w 3 = 0 then 96 else w 3) ∧ (if w 3 = 0 then 96 else w 3) ≤ 127) then .error [0x06, 0]
      else linkTable s.cram offset (w 0) (w 1) (w 2) (if w 3 = 0 then 96 else w 3) (w 4) at eq
  split
  · next h => exact record (eq.trans (if_pos (by omega)))
  next h2 =>
  rw [if_neg (by omega)] at eq
  split
  · next h => exact record (eq.trans (if_pos (by omega)))
  next h3 =>
  rw [if_neg (by omega)] at eq
  split
  · next h => exact record (eq.trans (if_pos (by omega)))
  next h4 =>
  rw [if_neg (by omega)] at eq
  split
  · next h => exact record (eq.trans (if_pos (by omega)))
  next h5 =>
  rw [if_neg (by omega)] at eq
  split
  · next h => exact record (eq.trans (if_pos (by split <;> omega)))
  next h6 =>
  rw [if_neg (by split <;> omega)] at eq
  have entry (j : Nat) : readNodeEntry s.cram offset j = (address j, role j, stand j) := readNodeEntry_eq _ _ _
  have roleAt (j : Nat) : (readNodeEntry s.cram offset j).2.1 = role j := by rw [entry]
  have ok {j : Nat} (ha : addressOk j) (hr : roleOk j) (hs : standOk j) : EntryOk s.cram offset j := by
    unfold EntryOk
    rw [entry, entryFault_stand ha hr]
    exact if_pos hs
  refine ⟨fun j hj before => ⟨fun h => ?_, fun ha h => ?_, fun ha hr h => ?_⟩, fun all => ⟨fun j k h hk before => ?_,
    fun addresses => ⟨fun j k h hk before => ?_, fun roles gauges => ?_⟩⟩⟩
  · exact record (eq.trans (linkTable_fault hj (fun k hk => ok (before k hk).1 (before k hk).2.1 (before k hk).2.2)
      (by rw [entry]; exact entryFault_address h)))
  · exact record (eq.trans (linkTable_fault hj (fun k hk => ok (before k hk).1 (before k hk).2.1 (before k hk).2.2)
      (by rw [entry]; exact entryFault_role ha h)))
  · exact record (eq.trans (linkTable_fault hj (fun k hk => ok (before k hk).1 (before k hk).2.1 (before k hk).2.2)
      (by rw [entry]; exact (entryFault_stand ha hr).trans (if_neg h))))
  all_goals have sound := fun j hj => ok (all j hj).1 (all j hj).2.1 (all j hj).2.2
  · exact record (eq.trans (linkTable_address sound hk (fun b hb a ha e => before a b hb ⟨ha, e⟩) h.1 h.2))
  all_goals have apart := fun b (hb : b < w 4) a (ha : a < b) e => addresses a b hb ⟨ha, e⟩
  · obtain ⟨lt, ne, sameR, sameS⟩ := h
    refine record (eq.trans (linkTable_role sound apart hk (fun b hb nb a ha e => before a b hb ?_) (by rwa [roleAt]) lt
      (by rw [entry, entry, sameR, sameS])))
    rw [entry, entry, Prod.mk.injEq] at e
    exact ⟨ha, roleAt b ▸ nb, e.1, e.2⟩
  · refine record (eq.trans ((linkTable_last sound apart (fun b hb nb a ha e => roles a b hb ?_)).trans (if_neg ?_)))
    · rw [entry, entry, Prod.mk.injEq] at e
      exact ⟨ha, roleAt b ▸ nb, e.1, e.2⟩
    · simpa only [roleAt] using gauges

/-! ## The link start (R25, R41, R46, R84) -/

/-- R22, R23: the first cycle of a link start. -/
def Cycle.starting (number : Half) (clock : Nat) (nodes : List Node) : Cycle :=
  ⟨number, clock, nodes.map (·.address), [], [], false, false, false, false, false⟩

/-- R25, R41, R46, R84: the state a link start leaves, field by field. -/
theorem State.linkStart_eq (s : State) (nodes : List Node) (timing : Option Timing) (warn : Nat) :
    s.linkStart nodes timing warn = { s with
      lnk := ⟨.ready, nodes.map Node.linkStarted, timing, warn, s.lnk.cycleNumber + 1,
        some (Cycle.starting (s.lnk.cycleNumber + 1) s.clock nodes), [], [], false, 0⟩
      gap := { s.gap with stands := s.gap.stands.map GapRec.linkStarted }
      news := { s.news with node := s.news.node || s.lnk.nodes.any (fun n => n.health != .active) }
      irq := (s.linkStart nodes timing warn).irq
      irqSignals := (s.linkStart nodes timing warn).irqSignals
      linkOut := s.linkOut ++ [syncFrame (s.lnk.cycleNumber + 1) .ready s.trp.latch] } := by
  have awaited : ((nodes.map Node.linkStarted).filter (fun n => n.health != .excluded)).map (·.address) =
      nodes.map (·.address) := by
    rw [List.filter_eq_self.2, List.map_map]
    · rfl
    · intro n hn
      obtain ⟨x, _, rfl⟩ := List.mem_map.1 hn
      rfl
  unfold State.linkStart State.beginCycle
  cases s.lnk.nodes.any (fun n => n.health != .active)
  · simp [Cycle.starting, awaited, State.send]
  · simp [Cycle.starting, awaited, State.send, State.noteNode]

theorem State.linkStart_gapStand (s : State) (nodes : List Node) (timing : Option Timing) (warn : Nat) (k : Stand) :
    (s.linkStart nodes timing warn).gapStand k =
      { s.gapStand k with integrator := 0, committed := none, rPrev := none, devCount := 0 } := by
  rw [State.linkStart_eq]
  exact Table.get_map _ _ _

/-- 2.2, 11.8: a node entry without fault as a node of the table. -/
theorem entryNode_eq {a : Byte} {r st : Nat} (hr : 1 ≤ r ∧ r ≤ 4) (hs : (r = 4 → st = 0) ∧ (r ≠ 4 → 1 ≤ st ∧ st ≤ 7)) :
    (entryNode (a.toNat, r, st)).linkStarted = ⟨a,
      if r = 1 then .gap else if r = 2 then .force else if r = 3 then .speed else .exitGauge,
      if r = 4 then none else some (Fin.ofNat 7 (st - 1)),
      .active, 0, 0, none, false, .none, 0, none, [], none, false, false, none⟩ := by
  have stand (h : 1 ≤ st ∧ st ≤ 7) : standOf st = some (Fin.ofNat 7 (st - 1)) := by
    rw [standOf, dif_pos h, Option.some.injEq, Fin.ext_iff]
    show st - 1 = (st - 1) % 7
    omega
  obtain ⟨lo, hi⟩ := hr
  interval_cases r
  · simp [entryNode, roleOf, Node.linkStarted, stand (hs.2 (by decide))]
  · simp [entryNode, roleOf, Node.linkStarted, stand (hs.2 (by decide))]
  · simp [entryNode, roleOf, Node.linkStarted, stand (hs.2 (by decide))]
  · simp [entryNode, roleOf, Node.linkStarted]

/-- Settles O14: `linkTable_last` with every entry without fault. -/
theorem linkConfigureStartsTheLink : Obligations.LinkConfigureStartsTheLink := by
  intro s i args base w address role stand nodes ht hr h4 hin w4lo w4hi w0lo w0hi w0mod w1lo w1hi w2lo w2hi w3hi entries apart one
  let offset := (args.getD 0 0).toNat
  have entry (j : Nat) : readNodeEntry s.cram offset j = ((address j).toNat, role j, stand j) := readNodeEntry_eq _ _ _
  have roleAt (j : Nat) : (readNodeEntry s.cram offset j).2.1 = role j := by rw [entry]
  have sound (j : Nat) (hj : j < w 4) : EntryOk s.cram offset j := by
    obtain ⟨a1, a2, r1, r2, gauge, other⟩ := entries j hj
    unfold EntryOk
    rw [entry, entryFault_stand ⟨a1, a2⟩ ⟨r1, r2⟩, if_pos ⟨gauge, other⟩]
  have addresses (b : Nat) (hb : b < w 4) (a : Nat) (ha : a < b) :
      (readNodeEntry s.cram offset a).1 ≠ (readNodeEntry s.cram offset b).1 := by
    rw [entry, entry]
    exact fun e => (apart a b ha hb).1 (BitVec.eq_of_toNat_eq e)
  have roles (b : Nat) (hb : b < w 4) (nb : (readNodeEntry s.cram offset b).2.1 ≠ 4) (a : Nat) (ha : a < b) :
      (readNodeEntry s.cram offset a).2 ≠ (readNodeEntry s.cram offset b).2 := by
    rw [roleAt] at nb
    rw [entry, entry]
    intro e
    have na : role a ≠ 4 := by rw [show role a = role b from congrArg Prod.fst e]; exact nb
    exact (apart a b ha hb).2 na e
  have started : ((linkEntries s.cram offset (w 4)).map entryNode).map Node.linkStarted = nodes := by
    rw [linkEntries, List.map_map, List.map_map]
    refine List.map_congr_left fun j hj => ?_
    obtain ⟨_, _, r1, r2, gauge, other⟩ := entries j (List.mem_range.1 hj)
    show (entryNode (readNodeEntry s.cram offset j)).linkStarted = _
    rw [entry, entryNode_eq ⟨r1, r2⟩ ⟨gauge, other⟩]
  have record : readLinkRecord s.cram offset = .ok ((linkEntries s.cram offset (w 4)).map entryNode, ⟨w 0, w 1, w 2⟩,
      if w 3 = 0 then 96 else w 3) := by
    refine (readLinkRecord_eq s.cram offset).trans ?_
    change (if ¬ (1 ≤ w 4 ∧ w 4 ≤ 24) then _
      else if ¬ (250 ≤ w 0 ∧ w 0 ≤ 2000 ∧ w 0 % 50 = 0) then _
      else if ¬ (50 ≤ w 1 ∧ w 1 + 50 ≤ w 0) then _
      else if ¬ (w 1 + 8 ≤ w 2 ∧ w 2 + 40 ≤ w 0) then _
      else if ¬ (1 ≤ (if w 3 = 0 then 96 else w 3) ∧ (if w 3 = 0 then 96 else w 3) ≤ 127) then _
      else linkTable s.cram offset (w 0) (w 1) (w 2) (if w 3 = 0 then 96 else w 3) (w 4)) = _
    rw [if_neg (by omega), if_neg (by omega), if_neg (by omega), if_neg (by omega), if_neg (by split <;> omega),
      linkTable_last sound addresses roles, if_pos (by simpa only [roleAt] using one)]
  have answer : answerLinkConfigure s ⟨i, .linkConfigure, args, .handed⟩ =
      (s.linkStart ((linkEntries s.cram offset (w 4)).map entryNode) (some ⟨w 0, w 1, w 2⟩) (if w 3 = 0 then 96 else w 3),
        .ok, []) := by
    have placed : ¬ (!stagingOffsetOk offset linkRecordSize) = true := by
      rw [Bool.not_eq_true', Bool.not_eq_false]
      exact stagingOffsetOk_iff.2 ⟨h4, hin⟩
    refine (if_neg (not_not.2 hr)).trans ((if_neg placed).trans ?_)
    show (match readLinkRecord s.cram offset with
      | .error results => (s, OrderOutcome.badArgument, results)
      | .ok r => (s.linkStart r.1 (some r.2.1) r.2.2, .ok, [])) = _
    rw [record]
  refine ⟨s.linkStart ((linkEntries s.cram offset (w 4)).map entryNode) (some ⟨w 0, w 1, w 2⟩) (if w 3 = 0 then 96 else w 3),
    ?_, ?_⟩
  · show Host.Outcome.next (s.answerOrder .linkConfigure answerLinkConfigure) = _
    rw [State.answerOrder_handed ht, answer]
    rfl
  · have gaps := s.linkStart_gapStand ((linkEntries s.cram offset (w 4)).map entryNode) (some ⟨w 0, w 1, w 2⟩)
      (if w 3 = 0 then 96 else w 3)
    have first : Cycle.starting (s.lnk.cycleNumber + 1) s.clock ((linkEntries s.cram offset (w 4)).map entryNode) =
        ⟨s.lnk.cycleNumber + 1, s.clock, nodes.map (·.address), [], [], false, false, false, false, false⟩ := by
      rw [← started, List.map_map]
      rfl
    refine ⟨?_, ?_, ?_, ?_, ?_, ?_, ?_, ?_, ?_, gaps, ?_⟩
    all_goals rw [State.linkStart_eq]
    · exact started
    · exact congrArg some first
    · exact ⟨rfl, rfl, rfl, rfl, rfl, rfl, rfl, rfl, rfl, rfl⟩

/-! ## RUN_STATE and NODE_REJOIN -/

theorem State.runStateOrder_handed {s : State} {i : Fin 32} {target : Target} {args : List Word}
    (h : s.ord.taken = some ⟨i, .runState target, args, .handed⟩) :
    s.runStateOrder target =
      if s.lnk.runState = .halted then (s.applyRunState target).1.complete (s.applyRunState target).2 []
      else s.setPhase .waiting := by
  have handed : s.handedOrder (.runState target) = some ⟨i, .runState target, args, .handed⟩ :=
    State.handedOrder_eq_some.2 ⟨h, rfl, rfl⟩
  unfold State.runStateOrder
  rw [handed]

/-- Settles O16, by `State.applyRunState` in HALTED. -/
theorem runStateOrdersAtTheirTaking : Obligations.RunStateOrdersAtTheirTaking := by
  intro s i args
  have halted (target : Target) (ht : s.ord.taken = some ⟨i, .runState target, args, .handed⟩)
      (hr : s.lnk.runState = .halted) {r : State × OrderOutcome} (h : s.applyRunState target = r) :
      s.runStateOrder target = r.1.complete r.2 [] := by
    rw [State.runStateOrder_handed ht, if_pos hr, h]
  have ready (hr : s.lnk.runState = .halted) : s.applyRunState .ready =
      if s.lnk.nodes.isEmpty then (s, .wrongState) else (s.linkStart s.lnk.nodes s.lnk.timing s.lnk.warn, .ok) := by
    unfold State.applyRunState
    rw [hr]
  refine ⟨fun ht hr => ⟨fun empty => ?_, fun loaded => ?_⟩, fun target c h ht => ⟨fun running => ?_, fun hr e => ?_,
    fun hr e => ?_⟩⟩
  · exact congrArg _ (halted .ready ht hr ((ready hr).trans (if_pos (by rw [empty]; rfl))))
  · refine ⟨s.linkStart s.lnk.nodes s.lnk.timing s.lnk.warn, congrArg _ (halted .ready ht hr ((ready hr).trans (if_neg (by simpa using loaded)))), ?_⟩
    have gaps := s.linkStart_gapStand s.lnk.nodes s.lnk.timing s.lnk.warn
    refine ⟨?_, ?_, ?_, ?_, ?_, ?_, ?_, ?_, gaps, ?_⟩
    all_goals rw [State.linkStart_eq]
    · rfl
    · exact ⟨rfl, rfl, rfl, rfl, rfl⟩
  · have waits : s.runStateOrder target =
        { s with ord := { s.ord with taken := some ⟨i, .runState target, args, .waiting⟩ } } := by
      rw [State.runStateOrder_handed ht, if_neg running, State.setPhase, ht]
      rfl
    rcases h with h | h | h <;> cases h <;> exact congrArg _ waits
  · subst e
    rcases h with h | h | h <;> cases h
    refine congrArg Host.Outcome.next (halted .run ht hr (r := (s, .wrongState)) ?_)
    unfold State.applyRunState
    rw [hr]
  · subst e
    rcases h with h | h | h <;> cases h
    refine congrArg Host.Outcome.next (halted .halt ht hr (r := (s, .nothingToDo)) ?_)
    unfold State.applyRunState
    rw [hr]

/-- Settles O25: with distinct addresses NODE_REJOIN finds the one node of its address. -/
theorem nodeRejoinMakesRejoining : Obligations.NodeRejoinMakesRejoining := by
  intro s i args a ht nodup
  let t : Taken := ⟨i, .nodeRejoin, args, .handed⟩
  have answers {u : State} {o : OrderOutcome} {rs : List Word} (h : answerNodeRejoin s t = (u, o, rs)) :
      exec .nodeRejoin s = .next (u.complete o rs) := by
    show Host.Outcome.next (s.answerOrder .nodeRejoin answerNodeRejoin) = _
    rw [State.answerOrder_handed ht, h]
    rfl
  refine ⟨fun absent => answers ?_, fun n hn ha => ?_⟩
  · have nothing : s.lnk.nodes.find? (fun n => n.address.toNat == (t.arg 0).toNat) = none :=
      List.find?_eq_none.2 fun n hn => by rw [beq_iff_eq]; exact absent n hn
    unfold answerNodeRejoin
    rw [nothing]
  · have same (x : Node) (hx : x ∈ s.lnk.nodes) (e : x.address = n.address) : x = n :=
      List.inj_on_of_nodup_map nodup hx hn e
    have found : s.lnk.nodes.find? (fun n => n.address.toNat == (t.arg 0).toNat) = some n := by
      have some_found : (s.lnk.nodes.find? (fun n => n.address.toNat == (t.arg 0).toNat)).isSome = true :=
        List.find?_isSome.2 ⟨n, hn, beq_iff_eq.2 ha⟩
      obtain ⟨x, hx⟩ := Option.isSome_iff_exists.1 some_found
      have address : x.address.toNat = a := beq_iff_eq.1 (List.find?_some hx :)
      rw [hx, same x (List.mem_of_find?_eq_some hx) (BitVec.eq_of_toNat_eq (address.trans ha.symm))]
    refine ⟨fun used => answers ?_, fun excluded => ?_⟩
    · unfold answerNodeRejoin
      rw [found]
      exact if_pos used
    · let nodes := s.lnk.nodes.map (fun x =>
        if x.address = n.address ∧ x.health = .excluded then { x with health := .rejoining, clean := 0 } else x)
      have answer : answerNodeRejoin s t = (State.noteNode { s with lnk := { s.lnk with nodes := nodes } }, .ok, []) := by
        unfold answerNodeRejoin
        rw [found]
        exact if_neg (not_not.2 excluded)
      refine ⟨_, answers answer, rfl, ?_, rfl, rfl, rfl, rfl, rfl⟩
      refine List.map_congr_left fun x hx => if_congr ⟨fun h => ?_, fun h => ?_⟩ rfl rfl
      · rw [h.1, ha]
      · have e := BitVec.eq_of_toNat_eq (h.trans ha.symm)
        exact ⟨e, same x hx e ▸ excluded⟩

end Sys2Proof.Machine


/-! ## The orders of the stands and of the pages -/

namespace Sys2Proof.Machine

open Safety

/-! ### CANCEL_PENDING -/

/-- R5: no stand uses PENDING exactly when the switch progress is 0. -/
theorem State.switchProgress_eq_zero (s : State) : s.switchProgress = 0 ↔ ∀ k, (s.stand k).use ≠ .pending := by
  simp [State.switchProgress, allStands_eq_finRange]

/-- Settles O22, by the three answers of CANCEL_PENDING: an empty slot, a switch in progress, the discard. -/
theorem cancelPendingDiscardsThePendingSchedule : Obligations.CancelPendingDiscardsThePendingSchedule := by
  intro s i args ht
  have act : exec .cancelPending s = .next (State.completeWith (answerCancelPending s ⟨i, .cancelPending, args, .handed⟩)) :=
    congrArg Host.Outcome.next (State.answerOrder_handed ht answerCancelPending)
  refine ⟨fun empty => ?_, fun held used => ?_, fun h held unused => ?_⟩
  · rw [act, answerCancelPending, empty]; rfl
  · obtain ⟨h, held⟩ := Option.ne_none_iff_exists'.mp held
    have progress : s.switchProgress ≠ 0 := fun h0 =>
      let ⟨k, hk⟩ := used
      s.switchProgress_eq_zero.mp h0 k hk
    simp only [act, answerCancelPending, held, if_pos progress]; rfl
  · have progress : ¬ s.switchProgress ≠ 0 := not_not.mpr (s.switchProgress_eq_zero.mpr unused)
    simp only [act, answerCancelPending, held, if_neg progress]; rfl

/-! ### Steps due at this moment -/

/-- Once no order is TAKEN, a state that keeps clock, link, computation and reset of a timely one is settled. -/
theorem Settled.of_idle {s v : State} (h : Timely s) (hclock : v.clock = s.clock) (hlnk : v.lnk = s.lnk)
    (hcomp : v.comp = s.comp) (hreset : v.resetting = s.resetting) (idle : v.ord.taken = none) : Settled v := by
  have order : v.dueAt .order = none := by simp [State.dueAt, State.orderHanded, idle]
  refine ⟨fun d t hd => ?_, order⟩
  rw [hclock]
  cases d
  case order => rw [order] at hd; cases hd
  case copyEnd => simp [State.dueAt, idle] at hd
  case computeEnd => exact h .computeEnd t (by rw [← hd]; simp [State.dueAt, hcomp])
  case replyDeadline => exact h .replyDeadline t (by rw [← hd]; simp [State.dueAt, State.cycleMoment, hlnk])
  case commandOffset => exact h .commandOffset t (by rw [← hd]; simp [State.dueAt, State.cycleMoment, hlnk])
  case cycleStart => exact h .cycleStart t (by rw [← hd]; simp [State.dueAt, State.cycleMoment, hlnk])
  case resetCompletion => exact h .resetCompletion t (by rw [← hd]; simp [State.dueAt, hreset])

/-- A timely state whose TAKEN order waits is settled. -/
theorem Settled.of_waiting {s : State} (h : Timely s) {t : Taken} (ht : s.ord.taken = some t) (hp : t.phase = .waiting) :
    Settled s := ⟨h, by simp [State.dueAt, State.orderHanded, ht, hp]⟩

/-- R28: the state in which the compute start of the cycle `c` in progress comes at once. -/
def State.starting (s : State) (c : Cycle) : State :=
  { s with lnk := { s.lnk with cycle := some { c with due := true, started := true } } }

/-- R28: compute start of the cycle in progress is due and comes at once. -/
theorem State.computeStartDue_now {s : State} {c : Cycle} (hc : s.lnk.cycle = some c) (started : c.started = false)
    (idle : s.comp = none) (first : s.lnk.waiting = []) :
    s.computeStartDue = (s.starting c).computeStart { c with due := true } := by
  simp [State.computeStartDue, State.startCurrent, State.starting, hc, started, idle, first]

/-- R28: T_rd comes now. -/
theorem exec_replyDeadline {s : State} (h : Settled s) {c : Cycle} {timing : Timing} (hc : s.lnk.cycle = some c)
    (ht : s.lnk.timing = some timing) (now : c.startAt + timing.rd = s.clock) (due : c.due = false)
    (started : c.started = false) : exec .replyDeadline s = .next s.computeStartDue := by
  have moment : s.dueAt .replyDeadline = some s.clock := by simp [State.dueAt, State.cycleMoment, hc, ht, due, started, now]
  exact congrArg Host.Outcome.next (State.takeDue_now h moment)

/-- R28: T_rd comes now and brings compute start at once. -/
theorem exec_replyDeadline_now {s : State} (h : Settled s) {c : Cycle} {timing : Timing} (hc : s.lnk.cycle = some c)
    (ht : s.lnk.timing = some timing) (now : c.startAt + timing.rd = s.clock) (due : c.due = false)
    (started : c.started = false) (idle : s.comp = none) (first : s.lnk.waiting = []) :
    exec .replyDeadline s = .next ((s.starting c).computeStart { c with due := true }) := by
  rw [exec_replyDeadline h hc ht now due started, State.computeStartDue_now hc started idle first]

/-! ### SET_MODE and OPERATOR_TRIM -/

/-- A compute start depends on the state its waiting order leaves alone. -/
theorem State.computeStart_congr {s t : State} (h : s.deferredModeOrder = t.deferredModeOrder) (c : Cycle) :
    s.computeStart c = t.computeStart c := by
  simp only [State.computeStart, h]

theorem State.deferredModeOrder_idle {s : State} (h : s.ord.taken = none) : s.deferredModeOrder = s := by
  simp [State.deferredModeOrder, h]

/-- While the link runs, a completion with nothing queued writes the slot and is all. -/
theorem State.complete_running {s : State} (h : s.ord.queue = []) (running : s.lnk.runState ≠ .halted) (o : OrderOutcome)
    (rs : List Word) : s.complete o rs = s.finish o rs := by
  rw [State.complete_idle h, State.haltedStatus_running]
  cases ht : s.ord.taken <;> simpa [State.finish, ht, State.noteOrder] using running

theorem State.finish_starting (s : State) (c : Cycle) (o : OrderOutcome) (rs : List Word) :
    (s.starting c).finish o rs = (s.finish o rs).starting c := by
  cases ht : s.ord.taken with
  | none => simp [State.finish, State.starting, ht]
  | some t =>
    rw [State.finish, State.finish, show (s.starting c).ord.taken = some t from ht, ht]
    rfl

/-- R15: the answer `r` to a waiting order, which leaves all but STU as it was, is what the next compute start begins with. -/
theorem exec_replyDeadline_deferred {s : State} {t : Taken} {r : State × OrderOutcome × List Word} (hr : r.1 = { s with stu := r.1.stu })
    (answer : ∀ c, (s.starting c).deferredModeOrder = State.completeWith (r.1.starting c, r.2))
    {c : Cycle} {timing : Timing} (running : s.lnk.runState ≠ .halted) (hord : s.ord = ⟨[], some t⟩) (hp : t.phase = .waiting)
    (h : Timely s) (hc : s.lnk.cycle = some c) (ht : s.lnk.timing = some timing) (now : c.startAt + timing.rd = s.clock)
    (due : c.due = false) (started : c.started = false) (idle : s.comp = none) (first : s.lnk.waiting = []) :
    exec .replyDeadline s = exec .replyDeadline (State.completeWith r) := by
  obtain ⟨u, o, rs⟩ := r
  dsimp only at hr answer
  have taken : u.ord.taken = some t := by rw [hr]; simp [hord]
  have queue : u.ord.queue = [] := by rw [hr]; simp [hord]
  have lnk : u.lnk = s.lnk := by rw [hr]
  have completed : State.completeWith (u, o, rs) = u.finish o rs := State.complete_running queue (lnk ▸ running) o rs
  have begins (c : Cycle) : (s.starting c).deferredModeOrder = (u.finish o rs).starting c := by
    rw [answer c, State.completeWith, State.complete_running (s := u.starting c) queue (by simpa [State.starting, lnk] using running),
      State.finish_starting]
  have finished : (u.finish o rs).lnk = s.lnk ∧ (u.finish o rs).comp = s.comp ∧ (u.finish o rs).clock = s.clock ∧
      (u.finish o rs).resetting = s.resetting := by
    rw [State.finish_taken_eq taken]
    exact ⟨lnk, by rw [hr], by rw [hr], by rw [hr]⟩
  obtain ⟨flnk, fcomp, fclock, freset⟩ := finished
  have settled : Settled (u.finish o rs) := Settled.of_idle h fclock flnk fcomp freset (State.finish_taken u o rs)
  rw [completed, exec_replyDeadline_now (Settled.of_waiting h (by rw [hord]) hp) hc ht now due started idle first,
    exec_replyDeadline_now settled (by rw [flnk, hc]) (by rw [flnk, ht]) (by rw [fclock, now]) due started (by rw [fcomp, idle])
      (by rw [flnk, first])]
  refine congrArg Host.Outcome.next (State.computeStart_congr ?_ _)
  rw [begins, State.deferredModeOrder_idle]
  exact State.finish_taken u o rs

theorem standOf_eq_some {n : Nat} {k : Stand} (h : n = k.val + 1) : standOf n = some k := by
  subst h
  simp [standOf, Nat.succ_le_of_lt k.isLt]

theorem standOf_eq_none {n : Nat} (h : n = 0 ∨ 7 < n) : standOf n = none := by
  rw [standOf, dif_neg (by omega)]

theorem exists_standOf {n : Nat} (h1 : 1 ≤ n) (h7 : n ≤ 7) : ∃ k, standOf n = some k :=
  ⟨⟨n - 1, by omega⟩, by rw [standOf, dif_pos ⟨h1, h7⟩]⟩

theorem State.handedOrder_of {s : State} {t : Taken} (ht : s.ord.taken = some t) (hp : t.phase = .handed) :
    s.handedOrder t.kind = some t := by
  simp [State.handedOrder, ht, hp]

section
variable {s : State} {stand mode : Word} {k : Stand}

theorem State.applySetMode_noStand (h : standOf stand.toNat = none) :
    s.applySetMode stand mode = (s, .badArgument, [0x0B, 0]) := by simp [State.applySetMode, h]

theorem State.applySetMode_noMode (h : standOf stand.toNat = some k) (hm : requestedOf mode = none) :
    s.applySetMode stand mode = (s, .badArgument, [0x0C, 0]) := by simp [State.applySetMode, h, hm]

theorem State.applySetMode_out {m : Requested} (h : standOf stand.toNat = some k) (hm : requestedOf mode = some m)
    (out : s.entryOf k = none) : s.applySetMode stand mode = (s, .badArgument, [0x0B, 0]) := by
  simp [State.applySetMode, h, hm, State.inService, out]

theorem State.applySetMode_tripped (h : standOf stand.toNat = some k) (hm : requestedOf mode = some .gauge)
    (inside : s.entryOf k ≠ none) (latch : s.trp.latch = true) : s.applySetMode stand mode = (s, .tripped, []) := by
  simp [State.applySetMode, h, hm, State.inService, latch, Option.isSome_iff_ne_none.mpr inside]

theorem State.applySetMode_set {m : Requested} (h : standOf stand.toNat = some k) (hm : requestedOf mode = some m)
    (inside : s.entryOf k ≠ none) (clear : m = .position ∨ s.trp.latch = false) :
    s.applySetMode stand mode = (s.modifyStand k (fun r => { r with requested := m }), .ok, []) := by
  have : ¬ (m = .gauge ∧ s.trp.latch = true) := by
    rintro ⟨rfl, latch⟩
    rcases clear with h | h
    · cases h
    · rw [latch] at h; cases h
  simp [State.applySetMode, h, hm, State.inService, Option.isSome_iff_ne_none.mpr inside, if_neg this]

end

/-- SET_MODE changes STU alone, in the same way as the compute start begins. -/
theorem State.applySetMode_stu (s : State) (stand mode : Word) :
    (s.applySetMode stand mode).1 = { s with stu := (s.applySetMode stand mode).1.stu } ∧
      ∀ c, (s.starting c).applySetMode stand mode =
        ((s.applySetMode stand mode).1.starting c, (s.applySetMode stand mode).2) := by
  cases h : standOf stand.toNat with
  | none => exact ⟨by rw [State.applySetMode_noStand h], fun c => by rw [State.applySetMode_noStand h, State.applySetMode_noStand h]⟩
  | some k =>
    cases hm : requestedOf mode with
    | none => exact ⟨by rw [State.applySetMode_noMode h hm], fun c => by rw [State.applySetMode_noMode h hm, State.applySetMode_noMode h hm]⟩
    | some m =>
      by_cases out : s.entryOf k = none
      · exact ⟨by rw [State.applySetMode_out h hm out],
          fun c => by rw [State.applySetMode_out h hm out, State.applySetMode_out h hm (s := s.starting c) out]⟩
      by_cases clear : m = .position ∨ s.trp.latch = false
      · exact ⟨by rw [State.applySetMode_set h hm out clear]; rfl,
          fun c => by rw [State.applySetMode_set h hm out clear, State.applySetMode_set h hm (s := s.starting c) out clear]; rfl⟩
      · obtain ⟨gauge, latch⟩ := not_or.mp clear
        have hm : requestedOf mode = some .gauge := by cases m <;> simp_all
        have latch : s.trp.latch = true := by simpa using latch
        exact ⟨by rw [State.applySetMode_tripped h hm out latch],
          fun c => by rw [State.applySetMode_tripped h hm out latch, State.applySetMode_tripped h hm (s := s.starting c) out latch]⟩

/-- Settles O23: in HALTED the owner answers at once; a waiting SET_MODE is answered as the compute start begins. -/
theorem setModeChecksAndSets : Obligations.SetModeChecksAndSets := by
  intro s i args
  dsimp only
  have becomes (v : State) (hv : v = State.completeWith (s.applySetMode (args.getD 0 0) (args.getD 1 0))) :
      (s.lnk.runState = .halted → s.ord.taken = some ⟨i, .setMode, args, .handed⟩ → exec .setMode s = .next v) ∧
      ∀ (c : Cycle) (timing : Timing), s.lnk.runState ≠ .halted → s.ord = ⟨[], some ⟨i, .setMode, args, .waiting⟩⟩ →
        Timely s → s.lnk.cycle = some c → s.lnk.timing = some timing → c.startAt + timing.rd = s.clock →
        c.due = false → c.started = false → s.comp = none → s.lnk.waiting = [] →
        exec .replyDeadline s = exec .replyDeadline v := by
    subst hv
    refine ⟨fun halted ht => congrArg Host.Outcome.next ?_, fun c timing running hord => ?_⟩
    · rw [State.setModeOrder, State.handedOrder_of ht rfl]
      simp only [if_pos halted]; rfl
    · refine exec_replyDeadline_deferred (s.applySetMode_stu _ _).1 (fun c => ?_) running hord rfl
      rw [State.deferredModeOrder, show (s.starting c).ord.taken = _ from congrArg OrderUnit.taken hord]
      exact congrArg State.completeWith ((s.applySetMode_stu _ _).2 c)
  have mode_none (h1 : args.getD 1 0 ≠ 1) (h2 : args.getD 1 0 ≠ 2) : requestedOf (args.getD 1 0) = none := by
    rw [requestedOf, if_neg h1, if_neg h2]
  have mode_some (h : args.getD 1 0 = 1 ∨ args.getD 1 0 = 2) :
      requestedOf (args.getD 1 0) = some (if args.getD 1 0 = 1 then .position else .gauge) := by
    rcases h with h | h <;> rw [h] <;> decide
  refine ⟨fun running ht => congrArg Host.Outcome.next ?_, fun hn => becomes _ ?_, fun h1 h7 hm1 hm2 => becomes _ ?_,
    fun k hk hm => ⟨fun out => becomes _ ?_, fun inside gauge latch => becomes _ ?_, fun inside clear => ?_⟩⟩
  · rw [State.setModeOrder, State.handedOrder_of ht rfl]
    simp only [if_neg running, State.setPhase, ht]; rfl
  · rw [State.applySetMode_noStand (standOf_eq_none hn)]; rfl
  · obtain ⟨k, hk⟩ := exists_standOf h1 h7
    rw [State.applySetMode_noMode hk (mode_none hm1 hm2)]; rfl
  · rw [State.applySetMode_out (standOf_eq_some hk) (mode_some hm) out]; rfl
  · rw [State.applySetMode_tripped (standOf_eq_some hk) (by rw [gauge]; decide) inside latch]; rfl
  · refine ⟨s.modifyStand k (fun r => { r with requested := if args.getD 1 0 = 1 then .position else .gauge }),
      becomes _ ?_, rfl, rfl, State.modifyStand_same _ k _, fun j hj => State.modifyStand_other _ _ _ _ hj.symm⟩
    rw [State.applySetMode_set (standOf_eq_some hk) (mode_some hm) inside]
    · rfl
    · exact clear.imp (fun h => if_pos h) id

section
variable {s : State} {stand trim : Word} {k : Stand}

theorem State.applyTrim_noStand (h : standOf stand.toNat = none) :
    s.applyTrim stand trim = (s, .badArgument, [0x0B, 0]) := by simp [State.applyTrim, h]

theorem State.applyTrim_out (h : standOf stand.toNat = some k) (out : s.entryOf k = none) :
    s.applyTrim stand trim = (s, .badArgument, [0x0B, 0]) := by simp [State.applyTrim, h, out]

theorem State.applyTrim_set {e : StandEntry} (h : standOf stand.toNat = some k) (he : s.entryOf k = some e) :
    s.applyTrim stand trim = (s.modifyStand k (fun r => { r with trim := clampAbs e.trimMax trim.toInt }), .ok,
      [BitVec.ofInt 32 (clampAbs e.trimMax trim.toInt)]) := by simp [State.applyTrim, h, he]

end

/-- OPERATOR_TRIM changes STU alone, in the same way as the compute start begins. -/
theorem State.applyTrim_stu (s : State) (stand trim : Word) :
    (s.applyTrim stand trim).1 = { s with stu := (s.applyTrim stand trim).1.stu } ∧
      ∀ c, (s.starting c).applyTrim stand trim = ((s.applyTrim stand trim).1.starting c, (s.applyTrim stand trim).2) := by
  cases h : standOf stand.toNat with
  | none => exact ⟨by rw [State.applyTrim_noStand h], fun c => by rw [State.applyTrim_noStand h, State.applyTrim_noStand h]⟩
  | some k =>
    cases he : s.entryOf k with
    | none => exact ⟨by rw [State.applyTrim_out h he],
        fun c => by rw [State.applyTrim_out h he, State.applyTrim_out h (s := s.starting c) he]⟩
    | some e => exact ⟨by rw [State.applyTrim_set h he]; rfl,
        fun c => by rw [State.applyTrim_set h he, State.applyTrim_set h (s := s.starting c) he]; rfl⟩

theorem clampAbs_above {x : Nat} {v : Int} (h : (x : Int) < v) : clampAbs x v = x := by
  rw [clampAbs, clampInt, if_neg (by omega), if_pos h]

theorem clampAbs_below {x : Nat} {v : Int} (h : v < -(x : Int)) : clampAbs x v = -(x : Int) := by
  rw [clampAbs, clampInt, if_pos h]

/-- Settles O24: in HALTED the owner answers at once; a waiting OPERATOR_TRIM is answered as the compute start begins. -/
theorem operatorTrimClampsAndSets : Obligations.OperatorTrimClampsAndSets := by
  intro s i args
  dsimp only
  have becomes (v : State) (hv : v = State.completeWith (s.applyTrim (args.getD 0 0) (args.getD 1 0))) :
      (s.lnk.runState = .halted → s.ord.taken = some ⟨i, .operatorTrim, args, .handed⟩ → exec .operatorTrim s = .next v) ∧
      ∀ (c : Cycle) (timing : Timing), s.lnk.runState ≠ .halted → s.ord = ⟨[], some ⟨i, .operatorTrim, args, .waiting⟩⟩ →
        Timely s → s.lnk.cycle = some c → s.lnk.timing = some timing → c.startAt + timing.rd = s.clock →
        c.due = false → c.started = false → s.comp = none → s.lnk.waiting = [] →
        exec .replyDeadline s = exec .replyDeadline v := by
    subst hv
    refine ⟨fun halted ht => congrArg Host.Outcome.next ?_, fun c timing running hord => ?_⟩
    · rw [State.trimOrder, State.handedOrder_of ht rfl]
      simp only [if_pos halted]; rfl
    · refine exec_replyDeadline_deferred (s.applyTrim_stu _ _).1 (fun c => ?_) running hord rfl
      rw [State.deferredModeOrder, show (s.starting c).ord.taken = _ from congrArg OrderUnit.taken hord]
      exact congrArg State.completeWith ((s.applyTrim_stu _ _).2 c)
  refine ⟨fun running ht => congrArg Host.Outcome.next ?_, fun hn => becomes _ ?_, fun k hk => ⟨fun out => becomes _ ?_, fun e he => ?_⟩⟩
  · rw [State.trimOrder, State.handedOrder_of ht rfl]
    simp only [if_neg running, State.setPhase, ht]; rfl
  · rw [State.applyTrim_noStand (standOf_eq_none hn)]; rfl
  · rw [State.applyTrim_out (standOf_eq_some hk) out]; rfl
  · refine ⟨s.modifyStand k (fun r => { r with trim := clampAbs e.trimMax (args.getD 1 0).toInt }),
      clampAbs e.trimMax (args.getD 1 0).toInt, becomes _ ?_, rfl, rfl, State.modifyStand_same _ k _,
      fun j hj => State.modifyStand_other _ _ _ _ hj.symm, clampAbs_inside, clampAbs_above, clampAbs_below⟩
    rw [State.applyTrim_set (standOf_eq_some hk) he]; rfl

end Sys2Proof.Machine


/-! ## Cycle starts, roundings, nodes and stands at a compute start -/

namespace Sys2Proof.Machine

open Safety

/-! ### The cycle start -/

/-- R40: with no RUN_STATE order TAKEN a cycle start applies none. -/
theorem State.deferredRunState_none {s : State} (h : ∀ t target, s.ord.taken = some t → t.kind ≠ .runState target) :
    s.deferredRunState = s := by
  rw [State.deferredRunState]
  split
  · rfl
  · next t ht =>
    split
    · next target hk => exact absurd hk (h t target ht)
    · rfl

/-- R22, R23: the cycle start comes now. -/
theorem exec_cycleStart {s : State} (h : Settled s) {c : Cycle} {timing : Timing} (hc : s.lnk.cycle = some c)
    (ht : s.lnk.timing = some timing) (now : c.startAt + timing.cyc = s.clock) :
    exec .cycleStart s = .next s.cycleStartEvent :=
  congrArg Host.Outcome.next (State.takeDue_now h (by simp [State.dueAt, State.cycleMoment, hc, ht, now]))

/-- Settles O29: the cycle before ends, no order is applied, the next cycle begins. -/
theorem cycleStartOpensCycle : Obligations.CycleStartOpensCycle := by
  intro s c timing
  dsimp only
  intro settled hc ht now running order
  have ended : s.endCycle = { s with lnk := { s.lnk with
      cycle := none
      waiting := s.lnk.waiting ++ (if c.started then [] else [c])
      published := c.log
      publishedOverflow := c.overflow } } := by
    rw [State.endCycle, hc]
    cases h : c.started <;> simp [h]
  have kept : s.endCycle.deferredRunState = s.endCycle := State.deferredRunState_none (by rw [ended]; exact order)
  rw [exec_cycleStart settled hc ht now, State.cycleStartEvent, kept, ended, if_neg running]
  rfl

/-! ### Rounding -/

/-- The rounded quotient of two numbers is nearest, an exact half up. -/
theorem roundedQuotient_bounds (n : Nat) {d : Nat} (h : 0 < d) :
    2 * ((2 * n + d) / (2 * d) * d) ≤ 2 * n + d ∧ 2 * n < 2 * ((2 * n + d) / (2 * d) * d) + d := by
  have whole := Nat.div_add_mod (2 * n + d) (2 * d)
  have rest := Nat.mod_lt (2 * n + d) (show 0 < 2 * d by omega)
  have comm : 2 * d * ((2 * n + d) / (2 * d)) = 2 * ((2 * n + d) / (2 * d) * d) := by ring
  omega

/-- A number of 0 rounds to 0. -/
theorem roundDiv_zero {d : Nat} (h : 0 < d) : roundDiv 0 d = 0 := by
  simp [roundDiv, Nat.div_eq_of_lt (show d < 2 * d by omega)]

/-- 00 Rounding of a number that is not negative: nearest, an exact half up. -/
theorem roundDiv_bounds {n : Int} (hn : 0 ≤ n) {d : Nat} (h : 0 < d) :
    2 * (roundDiv n d * d) ≤ 2 * n + d ∧ 2 * n < 2 * (roundDiv n d * d) + d := by
  obtain ⟨m, rfl⟩ := Int.eq_ofNat_of_zero_le hn
  rw [roundDiv, if_pos hn, Int.toNat_natCast]
  exact_mod_cast roundedQuotient_bounds m h

/-- Settles O38: of a negative number the quotient is that of its opposite, negated. -/
theorem roundingIsToNearestHalfAway : Obligations.RoundingIsToNearestHalfAway := by
  intro n d hd
  dsimp only
  rcases le_or_gt 0 n with hn | hn
  · obtain ⟨above, below⟩ := roundDiv_bounds hn hd
    refine ⟨by omega, by omega, by omega, fun half => ?_⟩
    rcases eq_or_lt_of_le hn with rfl | hn
    · rw [roundDiv_zero hd] at half; omega
    · exact hn
  · obtain ⟨above, below⟩ := roundDiv_bounds (show 0 ≤ -n by omega) hd
    have negated : roundDiv n d * d = -(roundDiv (-n) d * d) := by rw [← neg_neg n, roundDiv_neg, neg_neg]; ring
    rw [negated]
    exact ⟨by omega, by omega, fun _ => hn, by omega⟩

/-! ### Bites, modes and deviations -/

/-- R13: a force value that is not fresh changes nothing. -/
theorem State.biteOf_held {s : State} {k : Stand} (h : (s.reading .force (some k)).2 ≠ .fresh) :
    s.biteOf k = ((s.stand k).bite, (s.stand k).debounce, .none) := by
  rw [State.biteOf]
  split
  · next f hr => rw [hr] at h; exact absurd rfl h
  · rfl

/-- R13: a fresh force value is judged by the thresholds of the stand. -/
theorem State.biteOf_fresh {s : State} {k : Stand} {f : Nat} (h : s.reading .force (some k) = (some f, .fresh)) :
    s.biteOf k = biteStep (((s.entryOf k).map (·.fOn)).getD 500) (((s.entryOf k).map (·.fOff)).getD 200) (s.stand k).bite
      (s.stand k).debounce f := by
  rw [State.biteOf, h]
  cases s.entryOf k <;> rfl

/-- R101: out of service, EMPTY, tripped or without an R_prev a stand's count is 0. -/
theorem deviationStep_cleared {e : Option StandEntry} {bite : Bite} {latch : Bool} {rPrev : Option Int}
    {gap : Option Nat × Mark} {force : Option Nat} {count : Nat} (h : e = none ∨ bite = .empty ∨ latch = true ∨ rPrev = none) :
    deviationStep e bite latch rPrev gap force count = (0, false) := by
  cases e with
  | none => rfl
  | some e =>
    cases bite with
    | empty => rfl
    | loaded =>
      cases latch with
      | true => rfl
      | false =>
        cases rPrev with
        | none => rfl
        | some p => simp at h

/-- R101, R56: without a fresh S, or with no F, the count is kept. -/
theorem deviationStep_kept (e : StandEntry) (p : Int) {gap : Option Nat × Mark} {force : Option Nat} {count : Nat}
    (h : gap.2 ≠ .fresh ∨ force = none) :
    deviationStep (some e) .loaded false (some p) gap force count = (count, false) := by
  obtain ⟨v, mark⟩ := gap
  rcases h with h | rfl
  · cases v <;> cases mark <;> simp_all [deviationStep]
  · cases v <;> cases mark <;> simp [deviationStep]

/-- Settles O40, row by row of the three tables. -/
theorem biteModeAndDeviationTables : Obligations.BiteModeAndDeviationTables := by
  refine ⟨fun s k => ⟨State.biteOf_held, fun f hf => ?_⟩, fun now nLock requested bite count fresh => ?_,
    fun e bite latch rPrev gap force count => ?_⟩
  · rw [State.biteOf_fresh hf]
    refine ⟨fun hb hlow => ?_, fun hb hhigh hd => ?_, fun hb hhigh hd => ?_, fun hb hhigh => ?_, fun hb hlow hd => ?_,
      fun hb hlow hd => ?_⟩
    · simp [biteStep, hb, Nat.not_le.mpr hlow]
    · simp [biteStep, hb, hhigh, hd]
    · simp [biteStep, hb, hhigh, hd]
    · simp [biteStep, hb, Nat.not_lt.mpr hhigh]
    · simp [biteStep, hb, hlow, hd]
    · simp [biteStep, hb, hlow, hd]
  · dsimp only
    refine ⟨fun h => ?_, fun n hnow hn hreq => ?_⟩
    · rcases h with h | h | h
      · cases nLock <;> simp [effectiveMode, h]
      · simp [effectiveMode, h]
      · cases nLock <;> simp [effectiveMode, h]
    · have locked (h : n = 0 ∨ n ≤ count) : ¬ (0 < n ∧ count < n) := by omega
      refine ⟨fun hb => ?_, fun hb h0 hc => ?_, fun hb h hf => ?_, fun hb h hf => ?_⟩
      · simp [effectiveMode, hnow, hn, hreq, hb]
      · simp [effectiveMode, hnow, hn, hreq, hb, h0, hc]
      · simp only [effectiveMode, hnow, hn, hreq, hb, hf, if_neg (locked h)]; rfl
      · simp only [effectiveMode, hnow, hn, hreq, hb, hf, if_neg (locked h)]; rfl
  · dsimp only
    refine ⟨fun h => ?_, fun e' p he hb hl hp => ⟨fun h => ?_, fun v hv hf => ?_⟩⟩
    · exact deviationStep_cleared h
    · subst he hb hl hp
      exact deviationStep_kept e' p h
    · subst he hb hl hp hv
      obtain ⟨f, rfl⟩ := Option.ne_none_iff_exists'.mp hf
      refine ⟨fun h => ?_, fun h hc => ?_, fun h hc => ?_⟩
      · simp [deviationStep, Nat.not_lt.mpr h]
      · simp [deviationStep, h, hc]
      · simp [deviationStep, h, hc]

/-! ### Nodes -/

/-- R27: the cycle result is good when one verdict is charged, and it is GOOD with its data. -/
theorem goodReply_eq_some {cs : List Charge} {d : ReplyData} :
    goodReply cs = some d ↔ ∃ x, cs = [x] ∧ x.verdict = .good ∧ x.data = some d := by
  rcases cs with _ | ⟨x, _ | ⟨y, rest⟩⟩
  · simp [goodReply]
  · simp [goodReply]
  · simp [goodReply]

/-- R29: when the value of a good reply is valid. -/
theorem validReply_eq_true {role : Role} {d : ReplyData} : validReply role d = true ↔
    d.valueValid = true ∧ d.localFault = false ∧ ((role = .gap ∨ role = .exitGauge) → d.value ≤ 99999) := by
  cases role <;> simp [validReply, and_assoc]

/-- R47, R48: a good result of a node in use. -/
theorem healthStep_good {w e c : Nat} {h : Health} (used : h ≠ .excluded ∧ h ≠ .rejoining) :
    healthStep w h e c true = (gradedHealth w (e - 1), e - 1, c) := by
  cases h <;> simp_all [healthStep]

/-- R47 to R49: a bad result of a node in use. -/
theorem healthStep_bad {w e c : Nat} {h : Health} (used : h ≠ .excluded ∧ h ≠ .rejoining) :
    healthStep w h e c false = if e ≤ 247 then (gradedHealth w (e + 8), e + 8, c) else (.excluded, 255, c) := by
  have : e + 8 ≤ 255 ↔ e ≤ 247 := by omega
  cases h <;> simp_all [healthStep]

/-- A node in use has no clean cycles counted. -/
theorem NodeOk.clean_eq_zero {w : Nat} {n : Node} (ok : NodeOk w n) (h : n.health ≠ .rejoining) : n.clean = 0 := by
  obtain ⟨-, -, ok⟩ := ok
  cases hn : n.health <;> simp_all

section
variable (n : Node) (w : Nat) (number : Half) (cs : List Charge)

/-- R47: health, E and clean-cycle count of a node after a cycle. -/
theorem Node.atComputeStart_health {h : Health} {e c : Nat}
    (step : healthStep w n.health n.errors n.clean (goodReply cs).isSome = (h, e, c)) :
    let m := n.atComputeStart w number cs
    m.health = h ∧ m.errors = e ∧ m.clean = c :=
  ⟨congrArg (·.1) step, congrArg (·.2.1) step, congrArg (·.2.2) step⟩

theorem Node.atComputeStart_result : (n.atComputeStart w number cs).result = some (goodReply cs).isSome := rfl

/-- R30: without a good valid reply of a node in use, the value is held. -/
theorem Node.atComputeStart_held
    (h : ∀ d, goodReply cs = some d → validReply n.role d = true → n.health = .excluded ∨ n.health = .rejoining) :
    let m := n.atComputeStart w number cs
    m.value = n.value ∧ m.strip = n.strip ∧ m.held = min (n.held + 1) 65535 ∧
      m.mark = if n.value = none then .none else .held := by
  have stale : ((goodReply cs).any (validReply n.role) && n.health != .excluded && n.health != .rejoining) = false := by
    cases hg : goodReply cs with
    | none => rfl
    | some d =>
      cases hv : validReply n.role d with
      | false => simp [hv]
      | true => rcases h d hg hv with h | h <;> simp [h]
  cases hv : n.value <;> simp [Node.atComputeStart, stale, hv]

/-- R30: a good valid reply of a node in use brings a fresh value. -/
theorem Node.atComputeStart_fresh {d : ReplyData} (hg : goodReply cs = some d) (hv : validReply n.role d = true)
    (used : n.health ≠ .excluded ∧ n.health ≠ .rejoining) :
    let m := n.atComputeStart w number cs
    m.mark = .fresh ∧ m.value = some d.value ∧ m.held = 0 ∧
      m.strip = if n.role = .exitGauge then d.stripPresent else n.strip := by
  simp [Node.atComputeStart, hg, hv, used]

/-- R29, R36: what a good reply brings besides its value. -/
theorem Node.atComputeStart_data {x : Charge} {d : ReplyData} (hx : x.verdict = .good) (hd : x.data = some d) :
    let m := n.atComputeStart w number [x]
    m.nodeReady = d.nodeReady ∧ m.localFault = d.localFault ∧ m.lastGood = some x.offset ∧
      m.echo = some (d.echo, number - 1 - d.echo) := by
  have good : goodReply [x] = some d := goodReply_eq_some.mpr ⟨x, rfl, hx, hd⟩
  simp [Node.atComputeStart, good, hx, echoLag]

end

/-- Settles O39: the health step by its table, the value by whether the reply is good, valid and of a node in use. -/
theorem nodeHealthAndValue : Obligations.NodeHealthAndValue := by
  intro n w number cs ok h1 h127
  have health {h : Health} {e c : Nat} := n.atComputeStart_health w number cs (h := h) (e := e) (c := c)
  have held := n.atComputeStart_held w number cs
  obtain ⟨bound, -, state⟩ := id ok
  dsimp only
  simp only [n.atComputeStart_result w number cs, Option.some.injEq, Bool.not_eq_true]
  refine ⟨(Bool.eq_false_or_eq_true _), ?_, fun used => ?_, fun ex => ?_, fun rej => ?_, fun h => held fun d hg hv => ?_,
    fun x d hcs hx hd => ?_⟩
  · rw [Option.isSome_iff_exists]
    simp only [goodReply_eq_some, Option.isSome_iff_exists]
    tauto
  · have clean : n.clean = 0 := NodeOk.clean_eq_zero ok used.2
    refine ⟨fun good => ?_, fun bad low => ?_, fun bad high => ?_⟩
    · obtain ⟨hh, he, hc⟩ := health (by rw [good, healthStep_good used, clean])
      exact ⟨he, hc, hh⟩
    · obtain ⟨hh, he, hc⟩ := health (by rw [bad, healthStep_bad used, if_pos low, clean])
      exact ⟨he, hc, hh⟩
    · obtain ⟨hh, he, -⟩ := health (by rw [bad, healthStep_bad used, if_neg (show ¬ n.errors ≤ 247 by omega)])
      exact ⟨hh, he⟩
  · rw [ex] at state
    obtain ⟨errors, clean⟩ := state
    obtain ⟨hh, he, hc⟩ := health (by rw [ex, healthStep])
    exact ⟨hh, he.trans errors, hc.trans clean⟩
  · rw [rej] at state
    refine ⟨fun bad => ?_, fun good low => ?_, fun good high => ?_⟩
    · obtain ⟨hh, he, hc⟩ := health (by rw [rej, bad, healthStep, if_neg Bool.false_ne_true])
      exact ⟨hh, hc, he.trans state⟩
    · have more : ¬ n.clean + 1 = Config.cleanCycles := by rw [show Config.cleanCycles = 128 from rfl]; omega
      obtain ⟨hh, he, hc⟩ := health (by rw [rej, good, healthStep, if_pos rfl, if_neg more])
      exact ⟨hh, hc, he.trans state⟩
    · have last : n.clean + 1 = Config.cleanCycles := by rw [high]; rfl
      obtain ⟨hh, he, hc⟩ := health (by rw [rej, good, healthStep, if_pos rfl, if_pos last])
      exact ⟨hh, hc, he⟩
  · rcases h with bad | idle
    · rw [hg] at bad; cases bad
    · tauto
  · subst hcs
    have good : goodReply [x] = some d := goodReply_eq_some.mpr ⟨x, rfl, hx, hd⟩
    obtain ⟨ready, fault, last, echo⟩ := n.atComputeStart_data w number hx hd
    refine ⟨ready, fault, last, echo, fun used valid => ?_, fun invalid => held fun d' hg hv => ?_⟩
    · exact n.atComputeStart_fresh w number _ good (validReply_eq_true.mpr valid) used
    · rw [good] at hg
      cases hg
      exact absurd (validReply_eq_true.mp hv) invalid

end Sys2Proof.Machine


/-! ## The report pages -/

namespace Sys2Proof.Machine

open Safety

/-! ### The search for a FREE page -/

theorem pageBase_apart {p q : Fin 16} (h : p ≠ q) :
    pageBase p + 0x1000 ≤ pageBase q ∨ pageBase q + 0x1000 ≤ pageBase p := by
  have : p.val ≠ q.val := fun hv => h (Fin.ext hv)
  simp only [pageBase]
  omega

/-- R164: the pages in search order are those 1 to 16 after the current one, round from 15 to 0. -/
theorem searchOrder_getElem (p : Fin 16) (i : Nat) (h : i < (searchOrder p).length) :
    ((searchOrder p)[i]).val = (p.val + (i + 1)) % 16 := by
  have all : ∀ (p i : Fin 16), ((searchOrder p)[i.val]'i.isLt).val = (p.val + (i.val + 1)) % 16 := by decide
  exact all p ⟨i, h⟩

/-- R164: page `q`, `d` after page `p`, is the page nearest behind `p` that is FREE. -/
structure State.NextFree (s : State) (p q : Fin 16) (d : Nat) : Prop where
  near : 1 ≤ d ∧ d ≤ 16
  place : q.val = (p.val + d) % 16
  free : s.pageState q = pageFree
  nearest : ∀ (n : Nat) (x : Fin 16), 1 ≤ n → n < d → x.val = (p.val + n) % 16 → s.pageState x ≠ pageFree

/-- A page less than 16 after another is not that page. -/
theorem State.NextFree.ne {s : State} {p q : Fin 16} {d : Nat} (h : s.NextFree p q d) (hd : d ≤ 15) : p ≠ q := by
  rintro rfl
  have := h.near
  have := h.place
  omega

/-- R164: the search finds the nearest FREE page. -/
theorem State.search_found {s : State} {q : Fin 16} {d : Nat} (h : s.NextFree s.rpt.current q d) :
    s.search = s.openPage q := by
  obtain ⟨⟨h1, h16⟩, place, free, nearest⟩ := h
  have index : d - 1 < (searchOrder s.rpt.current).length := show d - 1 < 16 by omega
  have found : s.searchPage = some q := by
    refine List.find?_eq_some_iff_getElem.mpr ⟨by simp [free], d - 1, index, ?_, fun j hj => ?_⟩
    · rw [Fin.ext_iff, searchOrder_getElem, place, Nat.sub_add_cancel h1]
    · have := nearest (j + 1) ((searchOrder s.rpt.current)[j]'(by omega)) (by omega) (by omega) (searchOrder_getElem _ _ _)
      simpa using this
  rw [State.search, found]

/-- R164: with no page FREE a search changes nothing. -/
theorem State.search_none {s : State} (h : ∀ q, s.pageState q ≠ pageFree) : s.search = s := by
  have found : s.searchPage = none := List.find?_eq_none.mpr fun q _ => by simpa using h q
  rw [State.search, found]

theorem State.search_cases (s : State) : s.search = s ∨ ∃ q, s.pageState q = pageFree ∧ s.search = s.openPage q := by
  rw [State.search]
  split
  · exact Or.inl rfl
  · next q hq => exact Or.inr ⟨q, by simpa using List.find?_some hq, rfl⟩

/-! ### Opening and closing a page -/

theorem Memory.readWords_five (m : Memory) (a : Nat) :
    m.readWords a 5 = [m.readWord a, m.readWord (a + 4), m.readWord (a + 8), m.readWord (a + 12), m.readWord (a + 16)] := rfl

/-- R164: the header of the page that a search has made FILLING. -/
theorem State.openPage_header (s : State) (q : Fin 16) :
    (s.openPage q).cram.readWords (pageBase q) 5 = [pageFilling, s.rpt.lastSeq + 1, 0, s.rpt.pendingLost, noIndex] :=
  Memory.readWords_writeWords _ _ [_, _, _, _, _]

theorem State.openPage_word (s : State) (q : Fin 16) {i : Nat} (h : i < 5) :
    (s.openPage q).word (pageBase q + 4 * i) = [pageFilling, s.rpt.lastSeq + 1, 0, s.rpt.pendingLost, noIndex].getD i 0 :=
  Memory.readWord_writeWords _ _ _ _ h

theorem State.openPage_filling (s : State) (q : Fin 16) : (s.openPage q).pageState q = pageFilling :=
  s.openPage_word q (i := 0) (by omega)

theorem State.openPage_read (s : State) (q : Fin 16) {a : Nat} (h : a < pageBase q ∨ pageBase q + 0x14 ≤ a) :
    (s.openPage q).cram.read a = s.cram.read a :=
  Memory.read_write_outside _ _ _ _ h

theorem State.openPage_other (s : State) {p q : Fin 16} (h : p ≠ q) : (s.openPage q).pageState p = s.pageState p :=
  Memory.readWord_write_outside _ _ _ _ (by rcases pageBase_apart h with h | h <;> simp <;> omega)

/-- R163: the current page has become FULL, and no search has been made yet. -/
def State.pageClosed (s : State) : State := State.notePage (s.putWord (pageBase s.rpt.current) pageFull)

theorem State.closeCurrent_eq (s : State) : s.closeCurrent = s.pageClosed.search := rfl

theorem State.pageClosed_current (s : State) : s.pageClosed.pageState s.rpt.current = pageFull :=
  Memory.readWord_writeWord _ _ _

theorem State.pageClosed_other (s : State) {q : Fin 16} (h : s.rpt.current ≠ q) : s.pageClosed.pageState q = s.pageState q :=
  Memory.readWord_write_outside _ _ _ _ (by rcases pageBase_apart h with h | h <;> simp <;> omega)

theorem State.pageClosed_read (s : State) {a : Nat} (h : a < pageBase s.rpt.current ∨ pageBase s.rpt.current + 4 ≤ a) :
    s.pageClosed.cram.read a = s.cram.read a :=
  Memory.read_write_outside _ _ _ _ h

/-- R163, R164: the page closed, the nearest FREE one opens. -/
theorem State.closeCurrent_found {s : State} {q : Fin 16} {d : Nat} (h : s.NextFree s.rpt.current q d) (hd : d ≤ 15) :
    s.closeCurrent = s.pageClosed.openPage q := by
  obtain ⟨⟨h1, h16⟩, place, free, nearest⟩ := id h
  rw [State.closeCurrent_eq]
  refine State.search_found (s := s.pageClosed) ⟨⟨h1, h16⟩, place, by rw [s.pageClosed_other (h.ne hd), free], fun n x hn hnd hx => ?_⟩
  replace hx : x.val = (s.rpt.current.val + n) % 16 := hx
  have other : s.rpt.current ≠ x := by rintro rfl; omega
  rw [s.pageClosed_other other]
  exact nearest n x hn hnd hx

/-- R163, R164: the page closed, with no page FREE none opens. -/
theorem State.closeCurrent_none {s : State} (h : ∀ q, s.pageState q ≠ pageFree) : s.closeCurrent = s.pageClosed := by
  rw [State.closeCurrent_eq]
  refine State.search_none (s := s.pageClosed) fun q => ?_
  by_cases hq : s.rpt.current = q
  · rw [← hq, State.pageClosed_current]; decide
  · rw [s.pageClosed_other hq]; exact h q

/-- R163, R164: a close opens another page or none. -/
theorem State.closeCurrent_cases (s : State) :
    s.closeCurrent = s.pageClosed ∨ ∃ q, s.rpt.current ≠ q ∧ s.closeCurrent = s.pageClosed.openPage q := by
  rcases s.pageClosed.search_cases with h | ⟨q, free, h⟩
  · exact Or.inl h
  · refine Or.inr ⟨q, fun hq => ?_, h⟩
    rw [← hq, State.pageClosed_current] at free
    exact absurd free (by decide)

/-! ### CLOSE_PAGE -/

/-- R168: the answer to CLOSE_PAGE with a FILLING page that is not empty. -/
theorem answerClosePage_closes {s : State} {t : Taken} (fill : s.pageState s.rpt.current = pageFilling)
    (count : s.pageCount s.rpt.current ≠ 0) : answerClosePage s t = (s.closeCurrent, .ok,
      [natWord s.rpt.current.val, s.word (pageBase s.rpt.current + 0x04),
        if s.closeCurrent.filling then natWord s.closeCurrent.rpt.current.val else noIndex]) := by
  have open? : ¬ ((!s.filling) = true ∨ s.pageCount s.rpt.current = 0) := by
    simpa [State.filling, fill] using count
  rw [answerClosePage]
  simp only [if_neg open?]

/-- Settles O28: CLOSE_PAGE closes the page as a full one is closed, and shows what the search found. -/
theorem closePageFillsAndSearches : Obligations.ClosePageFillsAndSearches := by
  intro s i args
  dsimp only
  intro ht
  have act : exec .closePage s = .next (State.completeWith (answerClosePage s ⟨i, .closePage, args, .handed⟩)) :=
    congrArg Host.Outcome.next (State.answerOrder_handed ht answerClosePage)
  refine ⟨fun idle => ?_, fun fill count => ⟨fun d q h1 h15 place free nearest => ?_, fun full => ?_⟩⟩
  · have closed : (!s.filling) = true ∨ s.pageCount s.rpt.current = 0 := by simpa [State.filling, State.pageCount] using idle
    rw [act, answerClosePage, if_pos closed]; rfl
  · have next : s.NextFree s.rpt.current q d := ⟨⟨h1, by omega⟩, place, free, nearest⟩
    have found := State.closeCurrent_found next h15
    have filling : s.closeCurrent.filling = true := by
      rw [found]
      exact beq_iff_eq.mpr (s.pageClosed.openPage_filling q)
    refine ⟨s.closeCurrent, ?_, ?_⟩
    · rw [act, answerClosePage_closes fill count, if_pos filling, found]; rfl
    · rw [found]
      refine ⟨?_, State.openPage_filling _ q, State.openPage_word _ q (i := 1) (by omega), State.openPage_word _ q (i := 2) (by omega),
        State.openPage_word _ q (i := 3) (by omega), State.openPage_word _ q (i := 4) (by omega), rfl, rfl, rfl, fun a hp hq => ?_⟩
      · rw [State.openPage_other _ (next.ne h15), State.pageClosed_current]
      · rw [State.openPage_read _ _ (by omega), State.pageClosed_read _ (by omega)]
  · have none := State.closeCurrent_none full
    have filling : ¬ s.closeCurrent.filling = true := by
      simp only [State.filling, none, show s.pageClosed.rpt = s.rpt from rfl, State.pageClosed_current]
      decide
    refine ⟨s.closeCurrent, ?_, ?_⟩
    · rw [act, answerClosePage_closes fill count, if_neg filling]; rfl
    · rw [none]
      exact ⟨s.pageClosed_current, rfl, rfl, rfl, fun a ha => s.pageClosed_read (by omega)⟩

/-! ### Reports -/

@[simp] theorem reportWords_length (g : Segment) (a : Assessment) (time : Word) : (reportWords g a time).length = 16 := by
  simp [reportWords]

/-- R161, R162: CRAM after report `n` (counted from 0) of the page at `base`. -/
def Memory.reported (m : Memory) (base n : Nat) (id : Word) (ws : List Word) : Memory :=
  let m := m.writeWords (base + 0x40 * (n + 1)) ws
  let m := if n = 0 then m.writeWord (base + 0x10) id else m
  m.writeWord (base + 0x08) (natWord (n + 1))

section
variable (m : Memory) (base n : Nat) (id : Word) (ws : List Word)

/-- A report changes its place, the report count, and the id where it is the first of its page. -/
theorem Memory.reported_read (h : ws.length = 16) {a : Nat} (count : a < base + 0x08 ∨ base + 0x0C ≤ a)
    (first : n = 0 → a < base + 0x10 ∨ base + 0x14 ≤ a)
    (place : a < base + 0x40 * (n + 1) ∨ base + 0x40 * (n + 2) ≤ a) : (m.reported base n id ws).read a = m.read a := by
  have written : (m.writeWords (base + 0x40 * (n + 1)) ws).read a = m.read a :=
    Memory.read_write_outside _ _ _ _ (by rw [words_length]; omega)
  rw [Memory.reported, Memory.writeWord, Memory.read_write_outside _ _ _ _ (by simpa using count)]
  split
  · next h0 => rw [Memory.writeWord, Memory.read_write_outside _ _ _ _ (by simpa using first h0), written]
  · exact written

theorem Memory.reported_count : (m.reported base n id ws).readWord (base + 0x08) = natWord (n + 1) :=
  Memory.readWord_writeWord _ _ _

theorem Memory.reported_place (h : ws.length = 16) : (m.reported base n id ws).readWords (base + 0x40 * (n + 1)) 16 = ws := by
  have written : (m.writeWords (base + 0x40 * (n + 1)) ws).readWords (base + 0x40 * (n + 1)) 16 = ws := by
    simpa [h] using Memory.readWords_writeWords m (base + 0x40 * (n + 1)) ws
  have apart (m : Memory) (o : Nat) (w : Word) (ho : o + 4 ≤ 0x40) :
      (m.writeWord (base + o) w).readWords (base + 0x40 * (n + 1)) 16 = m.readWords (base + 0x40 * (n + 1)) 16 :=
    Memory.readWords_congr fun i _ => Memory.readWord_write_outside _ _ _ _ (by simp; omega)
  rw [Memory.reported, apart _ _ _ (by omega)]
  split
  · rw [apart _ _ _ (by omega), written]
  · exact written

theorem Memory.reported_first (h : ws.length = 16) :
    (m.reported base n id ws).readWord (base + 0x10) = if n = 0 then id else m.readWord (base + 0x10) := by
  split
  · next h0 =>
    rw [Memory.reported, if_pos h0, Memory.writeWord, Memory.readWord_write_outside _ _ _ _ (by simp), Memory.readWord_writeWord]
  · next h0 => exact Memory.readWord_of_read fun i hi => m.reported_read base n id ws h (by omega) (fun h => absurd h h0) (by omega)

end

/-- R161, R162: a report written into the FILLING page. -/
theorem State.writeReport_eq (s : State) (g : Segment) (a : Assessment) (time : Word) :
    s.writeReport g a time = { s with
      cram := s.cram.reported (pageBase s.rpt.current) (s.pageCount s.rpt.current).toNat (natWord g.id.toNat) (reportWords g a time)
      rpt := { s.rpt with reported := s.rpt.reported + 1 } } := by
  simp only [State.writeReport, Memory.reported]
  split <;> rfl

section
variable {s : State} (g : Segment) (a : Assessment) (time : Word)

/-- A report leaves the state words of the pages as they are. -/
theorem State.writeReport_pageState (h : (s.pageCount s.rpt.current).toNat ≤ 62) (q : Fin 16) :
    (s.writeReport g a time).pageState q = s.pageState q := by
  rw [State.writeReport_eq]
  refine Memory.readWord_of_read fun i hi => Memory.reported_read _ _ _ _ _ (reportWords_length g a time) ?_ (fun _ => ?_) ?_ <;>
    · by_cases hq : s.rpt.current = q
      · subst hq; omega
      · rcases pageBase_apart hq with hq | hq <;> omega

theorem State.writeReport_count : (s.writeReport g a time).pageCount s.rpt.current = natWord ((s.pageCount s.rpt.current).toNat + 1) := by
  rw [State.writeReport_eq]
  exact Memory.reported_count _ _ _ _ _

/-- R161: a report that neither fills its page nor ends its coil is written. -/
theorem State.report_written (fill : s.pageState s.rpt.current = pageFilling) (h : (s.pageCount s.rpt.current).toNat < 62) :
    s.report g a false time = s.writeReport g a time := by
  have filling : s.filling = true := by simpa [State.filling] using fill
  have current : (s.writeReport g a time).rpt.current = s.rpt.current := by rw [State.writeReport_eq]
  have count : ¬ ((s.writeReport g a time).pageCount s.rpt.current).toNat = 63 := by
    rw [State.writeReport_count]
    simp only [natWord, BitVec.toNat_ofNat]
    omega
  simp [State.report, filling, current, Config.pagePlaces, count]

/-- R163: the 63rd report of its page, or the last of its coil, closes the page. -/
theorem State.report_closes {e : Bool} (fill : s.pageState s.rpt.current = pageFilling)
    (h : (s.pageCount s.rpt.current).toNat = 62 ∨ e = true) :
    s.report g a e time = (s.writeReport g a time).closeCurrent := by
  have filling : s.filling = true := by simpa [State.filling] using fill
  have current : (s.writeReport g a time).rpt.current = s.rpt.current := by rw [State.writeReport_eq]
  have closes : ((s.writeReport g a time).pageCount s.rpt.current).toNat = 63 ∨ e = true := by
    refine h.imp_left fun h => ?_
    rw [State.writeReport_count, h]; rfl
  simp only [State.report, filling, current, Config.pagePlaces, if_true]
  rw [if_pos (by simpa using closes)]

/-- R164: with no page FILLING a report opens the nearest FREE one and then goes there. -/
theorem State.report_opens {e : Bool} {q : Fin 16} {d : Nat} (idle : s.pageState s.rpt.current ≠ pageFilling)
    (next : s.NextFree s.rpt.current q d) : s.report g a e time = (s.openPage q).report g a e time := by
  have filling : s.filling = false := by simpa [State.filling] using idle
  have opened : (s.openPage q).filling = true := beq_iff_eq.mpr (s.openPage_filling q)
  simp only [State.report, filling, State.search_found next, Bool.false_eq_true, if_false, opened, if_true]

/-- R165: with no page FILLING and none FREE a report is lost. -/
theorem State.report_lost {e : Bool} (idle : s.pageState s.rpt.current ≠ pageFilling) (full : ∀ q, s.pageState q ≠ pageFree) :
    s.report g a e time = s.loseReport := by
  have filling : s.filling = false := by simpa [State.filling] using idle
  simp [State.report, filling, State.search_none full]

end

/-- R161, R162: what a report that is written and nothing else leaves. -/
theorem State.writeReport_leaves {s : State} (g : Segment) (a : Assessment) (time : Word) {n : Nat}
    (hn : (s.pageCount s.rpt.current).toNat = n) :
    (s.writeReport g a time).cram.readWords (pageBase s.rpt.current + 0x40 * (n + 1)) 16 = reportWords g a time ∧
      (s.writeReport g a time).word (pageBase s.rpt.current + 0x08) = BitVec.ofNat 32 (n + 1) ∧
      (s.writeReport g a time).word (pageBase s.rpt.current + 0x10) =
        (if n = 0 then BitVec.ofNat 32 g.id.toNat else s.word (pageBase s.rpt.current + 0x10)) ∧
      ∀ x, (x < pageBase s.rpt.current + 0x08 ∨ pageBase s.rpt.current + 0x0C ≤ x) →
        (x < pageBase s.rpt.current + 0x10 ∨ pageBase s.rpt.current + 0x14 ≤ x) →
        (x < pageBase s.rpt.current + 0x40 * (n + 1) ∨ pageBase s.rpt.current + 0x40 * (n + 2) ≤ x) →
        (s.writeReport g a time).cram.read x = s.cram.read x := by
  have words := reportWords_length g a time
  rw [State.writeReport_eq, hn]
  exact ⟨Memory.reported_place _ _ _ _ _ words, Memory.reported_count _ _ _ _ _, Memory.reported_first _ _ _ _ _ words,
    fun x count first place => Memory.reported_read _ _ _ _ _ words count (fun _ => first) place⟩

/-- R163, R164: what a close leaves, whatever the search finds. -/
theorem State.closeCurrent_leaves (s : State) :
    let p := s.rpt.current
    let t := s.closeCurrent
    t.pageState p = pageFull ∧ t.news = { s.news with page := true } ∧
      (∀ x, pageBase p + 4 ≤ x → x < pageBase p + 0x1000 → t.cram.read x = s.cram.read x) ∧
      t.rpt.reported = s.rpt.reported ∧ t.rpt.lost = s.rpt.lost ∧
      t = { s with cram := t.cram, rpt := t.rpt, news := t.news, irq := t.irq, irqSignals := t.irqSignals } := by
  dsimp only
  rcases s.closeCurrent_cases with h | ⟨q, other, h⟩
  · rw [h]
    exact ⟨s.pageClosed_current, rfl, fun x lo _ => s.pageClosed_read (Or.inr lo), rfl, rfl, rfl⟩
  · rw [h]
    refine ⟨by rw [State.openPage_other _ other, s.pageClosed_current], rfl, fun x lo hi => ?_, rfl, rfl, rfl⟩
    rw [State.openPage_read _ _ (by rcases pageBase_apart other with h | h <;> omega), s.pageClosed_read (Or.inr lo)]

/-- R164, R161: the first report of a page just opened. -/
theorem State.openPage_writeReport (s : State) (q : Fin 16) (g : Segment) (a : Assessment) (time : Word) :
    let t := (s.openPage q).writeReport g a time
    t = { s with cram := t.cram, rpt := { s.rpt with
      current := q, lastSeq := s.rpt.lastSeq + 1, pendingLost := 0, reported := s.rpt.reported + 1 } } ∧
    t.cram.readWords (pageBase q) 5 = [pageFilling, s.rpt.lastSeq + 1, 1, s.rpt.pendingLost, BitVec.ofNat 32 g.id.toNat] ∧
    t.cram.readWords (pageBase q + 0x40) 16 = reportWords g a time ∧
    ∀ x, (x < pageBase q ∨ pageBase q + 0x14 ≤ x) → (x < pageBase q + 0x40 ∨ pageBase q + 0x80 ≤ x) →
      t.cram.read x = s.cram.read x := by
  have empty : ((s.openPage q).pageCount (s.openPage q).rpt.current).toNat = 0 :=
    congrArg BitVec.toNat (s.openPage_word q (i := 2) (by omega))
  have leaves := State.writeReport_leaves g a time empty
  have frame := (s.openPage q).writeReport_eq g a time
  generalize (s.openPage q).writeReport g a time = t at leaves frame ⊢
  obtain ⟨place, count, first, rest⟩ := leaves
  replace count : t.cram.readWord (pageBase q + 8) = 1 := count
  replace first : t.cram.readWord (pageBase q + 16) = BitVec.ofNat 32 g.id.toNat := first
  replace rest (x : Nat) : (x < pageBase q + 0x08 ∨ pageBase q + 0x0C ≤ x) → (x < pageBase q + 0x10 ∨ pageBase q + 0x14 ≤ x) →
      (x < pageBase q + 0x40 ∨ pageBase q + 0x80 ≤ x) → t.cram.read x = (s.openPage q).cram.read x := rest x
  have header {i : Nat} (h : i < 5) (h2 : i ≠ 2) (h4 : i ≠ 4) : t.cram.readWord (pageBase q + 4 * i) =
      [pageFilling, s.rpt.lastSeq + 1, 0, s.rpt.pendingLost, noIndex].getD i 0 :=
    (Memory.readWord_of_read fun j hj => rest _ (by omega) (by omega) (by omega)).trans (s.openPage_word q h)
  have state : t.cram.readWord (pageBase q) = pageFilling := header (i := 0) (by omega) (by omega) (by omega)
  have seq : t.cram.readWord (pageBase q + 4) = s.rpt.lastSeq + 1 := header (i := 1) (by omega) (by omega) (by omega)
  have lost : t.cram.readWord (pageBase q + 12) = s.rpt.pendingLost := header (i := 3) (by omega) (by omega) (by omega)
  refine ⟨by rw [frame]; rfl, by rw [Memory.readWords_five, state, seq, count, lost, first], place, fun x outside place => ?_⟩
  rw [rest x (by omega) (by omega) place, State.openPage_read _ _ outside]

/-- Settles O51, by what the page is and what the search finds. -/
theorem reportsFillThePage : Obligations.ReportsFillThePage := by
  intro s g a e time
  dsimp only
  have written := s.writeReport_eq g a time
  generalize hn : (s.word (pageBase s.rpt.current + 0x08)).toNat = n
  replace hn : (s.pageCount s.rpt.current).toNat = n := hn
  obtain ⟨place, count, first, rest⟩ := State.writeReport_leaves g a time hn
  refine ⟨fun fill h he => ?_, fun fill h => ?_, fun d q idle h1 h16 hq free nearest => ?_, fun idle full => ?_⟩
  · subst he
    rw [State.report_written g a time fill (hn ▸ h)]
    exact ⟨by rw [written], by rw [written], place, count, first, rest⟩
  · have low : n ≤ 62 := by omega
    rw [State.report_closes g a time fill (by rw [hn]; exact h.imp id And.right)]
    have states := State.writeReport_pageState (s := s) g a time (hn ▸ low)
    have rpt : (s.writeReport g a time).rpt = { s.rpt with reported := s.rpt.reported + 1 } := by rw [written]
    have current : (s.writeReport g a time).rpt.current = s.rpt.current := by rw [rpt]
    obtain ⟨closed, note, inside, reported, lost, frame⟩ := (s.writeReport g a time).closeCurrent_leaves
    rw [current] at closed inside
    have inPage {x : Nat} (h : pageBase s.rpt.current + 8 ≤ x ∧ x + 4 ≤ pageBase s.rpt.current + 0x1000) :
        (s.writeReport g a time).closeCurrent.cram.readWord x = (s.writeReport g a time).cram.readWord x :=
      Memory.readWord_of_read fun i hi => inside _ (by omega) (by omega)
    have outside {x : Nat} (h : x < pageBase s.rpt.current ∨ pageBase s.rpt.current + 0x1000 ≤ x) :
        (s.writeReport g a time).pageClosed.cram.read x = s.cram.read x := by
      rw [State.pageClosed_read _ (by rw [current]; omega), rest x (by omega) (by omega) (by omega)]
    refine ⟨closed, by rw [note, written], (Memory.readWords_congr fun i hi => inPage (by omega)).trans place,
      (inPage (by omega)).trans count, by rw [reported, rpt], by rw [lost, rpt], ?_, fun d q h1 h15 hq free nearest => ?_,
      fun full => ?_⟩
    · rw [frame, written]
    · have next : (s.writeReport g a time).NextFree (s.writeReport g a time).rpt.current q d := by
        rw [current]
        exact ⟨⟨h1, by omega⟩, hq, by rw [states, free], fun n x hn hnd hx => by rw [states]; exact nearest n x hn hnd hx⟩
      rw [State.closeCurrent_found next h15]
      refine ⟨?_, ?_, fun x hp hq => ?_⟩
      · rw [written]; rfl
      · rw [State.openPage_header, written]; rfl
      · rw [State.openPage_read _ _ hq, outside hp]
    · rw [State.closeCurrent_none (s := s.writeReport g a time) (fun q => by rw [states]; exact full q)]
      exact ⟨rpt, fun x hp => outside hp⟩
  · have next : s.NextFree s.rpt.current q d := ⟨⟨h1, h16⟩, hq, free, nearest⟩
    refine ⟨State.report_opens g a time idle next, fun he => ?_⟩
    subst he
    have empty : ((s.openPage q).pageCount (s.openPage q).rpt.current).toNat = 0 :=
      congrArg BitVec.toNat (s.openPage_word q (i := 2) (by omega))
    rw [State.report_opens g a time idle next, State.report_written g a time (s.openPage_filling q) (by omega)]
    exact s.openPage_writeReport q g a time
  · rw [State.report_lost g a time idle full, State.loseReport, satSucc_eq]

end Sys2Proof.Machine


/-! ## LOAD_SCHEDULE and its record -/

namespace Sys2Proof.Machine

open Safety

/-! ### Searches over the stands -/

theorem allStands_sorted : allStands.Pairwise (· < ·) := by decide

theorem mem_allStands (k : Stand) : k ∈ allStands := by revert k; decide

/-- In a list in increasing order, a search finds the least element at which it succeeds. -/
theorem findSome?_eq_some_of_sorted {α β : Type} [LT α] {l : List α} (sorted : l.Pairwise (· < ·)) {f : α → Option β} {k : α}
    {b : β} (mem : k ∈ l) (hk : f k = some b) (before : ∀ j, j < k → f j = none) : l.findSome? f = some b := by
  induction l with
  | nil => cases mem
  | cons x xs ih =>
    obtain ⟨least, rest⟩ := List.pairwise_cons.mp sorted
    rcases List.mem_cons.mp mem with rfl | mem
    · rw [List.findSome?_cons, hk]
    · rw [List.findSome?_cons, before x (least k mem)]
      exact ih rest mem

/-- The place of an element among those of a list in increasing order that pass is the number of the lesser ones. -/
theorem idxOf_filter_eq_length {l : List Stand} (sorted : l.Pairwise (· < ·)) {p : Stand → Bool} {k : Stand} (mem : k ∈ l)
    (hk : p k = true) : (l.filter p).idxOf k = (l.filter (fun j => decide (j < k) && p j)).length := by
  induction l with
  | nil => cases mem
  | cons x xs ih =>
    obtain ⟨least, rest⟩ := List.pairwise_cons.mp sorted
    by_cases hx : x = k
    · subst hx
      have none : xs.filter (fun j => decide (j < x) && p j) = [] :=
        List.filter_eq_nil_iff.mpr fun j hj => by simp [not_lt.mpr (least j hj).le]
      simp [hk, none]
    · have mem : k ∈ xs := (List.mem_cons.mp mem).resolve_left (Ne.symm hx)
      have less : x < k := least k mem
      cases px : p x with
      | true => simp [px, less, List.idxOf_cons_ne _ hx, ih rest mem]
      | false => simp [px, ih rest mem]

/-- A sum over the elements that pass is a sum over all with 0 for the others. -/
theorem sum_map_filter {α : Type} (l : List α) (p : α → Bool) (f : α → Nat) :
    ((l.filter p).map f).sum = (l.map (fun k => if p k then f k else 0)).sum := by
  induction l with
  | nil => rfl
  | cons x xs ih => cases h : p x <;> simp [h, ih]

/-! ### Range checks -/

/-- A list of range checks names the first that fails. -/
theorem firstOutside_map_eq_some {α : Type} {f : α → Nat × Nat × Nat × Nat} {a b : List α} {r : α}
    (inside : ∀ q ∈ a, (f q).2.1 ≤ (f q).2.2.2 ∧ (f q).2.2.2 ≤ (f q).2.2.1)
    (outside : ¬ ((f r).2.1 ≤ (f r).2.2.2 ∧ (f r).2.2.2 ≤ (f r).2.2.1)) :
    firstOutside ((a ++ r :: b).map f) = some (f r).1 := by
  induction a with
  | nil => simp [firstOutside, outside]
  | cons q a ih =>
    rw [List.cons_append, List.map_cons, firstOutside, if_pos (inside q List.mem_cons_self)]
    exact ih fun q hq => inside q (List.mem_cons_of_mem _ hq)

theorem firstOutside_map_eq_none {α : Type} {f : α → Nat × Nat × Nat × Nat} {a : List α}
    (inside : ∀ q ∈ a, (f q).2.1 ≤ (f q).2.2.2 ∧ (f q).2.2.2 ≤ (f q).2.2.1) : firstOutside (a.map f) = none := by
  induction a with
  | nil => rfl
  | cons q a ih =>
    rw [List.map_cons, firstOutside, if_pos (inside q List.mem_cons_self)]
    exact ih fun q hq => inside q (List.mem_cons_of_mem _ hq)

/-! ### The schedule record -/

/-- 1.2: the stand of the mask at which the stand entries of a record are read. -/
def maskedAt (words : List Word) (k : Stand) : Bool := (words.getD 1 0).getLsbD k.val

/-- 1.2, 11.4: the stand entry of stand `k` in a record. -/
def entryAt (words : List Word) (k : Stand) : StandEntry :=
  readEntry words ((List.finRange 7).filter (fun j => decide (j < k) && maskedAt words j)).length

theorem maskStands_eq (words : List Word) : maskStands (recWord words 1) = (List.finRange 7).filter (maskedAt words) := rfl

/-- R3: the entries of a record. -/
theorem placeEntries_get (words : List Word) (k : Stand) :
    (placeEntries words (maskStands (recWord words 1))).get k = if maskedAt words k then some (entryAt words k) else none := by
  rw [placeEntries, Table.get_build, maskStands_eq]
  cases h : maskedAt words k with
  | true =>
    have place := idxOf_filter_eq_length (List.pairwise_lt_finRange 7) (List.mem_finRange k) h
    rw [if_pos (List.mem_filter.mpr ⟨List.mem_finRange k, h⟩), place]; rfl
  | false => simp [h]

/-- R3 check 4: the first stand whose entry fails. -/
theorem firstEntryFailure_eq (entries : Table 7 (Option StandEntry)) (ks : List Stand) :
    firstEntryFailure entries ks = ks.findSome? (fun k => ((entries.get k).bind entryFailure).map (·, k)) := by
  induction ks with
  | nil => rfl
  | cons k ks ih =>
    rw [firstEntryFailure, List.findSome?_cons, ← ih]
    cases (entries.get k).bind entryFailure <;> rfl

/-- 11.4: word `n` of the stand entry of stand `k`. -/
def fieldAt (words : List Word) (k : Stand) (n : Nat) : Nat :=
  (words.getD (16 + 24 * ((List.finRange 7).filter (fun j => decide (j < k) && maskedAt words j)).length + n) 0).toNat

/-- R3 check 1: the ranges of the coil part: field code, lowest, highest, word. -/
def coilRows (words : List Word) : List (Nat × Nat × Nat × Nat) :=
  [(0x21, 1, 127, 1), (0x22, 1, 7, 2), (0x23, 100, 100000, 3), (0x24, 1000, 50000000, 4), (0x25, 0, (words.getD 4 0).toNat, 5),
   (0x26, 500, 20000, 6), (0x27, 1, 500, 7), (0x28, 0, 4095, 8), (0x29, 0, 2000, 9)]

/-- R3 check 4: the ranges of a stand entry: field code, lowest, highest, word. -/
def entryRows : List (Nat × Nat × Nat × Nat) :=
  [(0x40, 0, 60000, 0), (0x41, 0, 99999, 1), (0x42, 0, 99999, 2), (0x44, 50, 2000, 4), (0x45, 0, 5000, 5),
   (0x46, 500, 60000, 6), (0x47, 0, 4095, 7), (0x48, 0, 4095, 8), (0x49, 0, 256, 9), (0x4A, 1, 500, 10),
   (0x4B, 0, 5000, 11), (0x4C, 0, 2000, 12), (0x4D, 0, 255, 13), (0x4E, 0, 65535, 14), (0x4F, 0, 65535, 15),
   (0x50, 0, 65535, 16), (0x51, 1, 30000, 17), (0x52, 0, 128, 18), (0x53, 4096, 4915, 19), (0x54, 1, 5000, 20),
   (0x55, 1, 255, 21)]

theorem coilRanges_eq (words : List Word) : coilRanges words =
    (coilRows words).map (fun r => (r.1, r.2.1, r.2.2.1, (words.getD r.2.2.2 0).toNat)) := rfl

theorem entryRanges_eq (words : List Word) (k : Stand) : entryRanges (entryAt words k) =
    entryRows.map (fun r => (r.1, r.2.1, r.2.2.1, fieldAt words k r.2.2.2)) := rfl

section
variable {words : List Word} {k : Stand}

/-- R3 check 4: the entry of a stand lies inside its ranges. -/
def EntryInside (words : List Word) (k : Stand) : Prop :=
  ∀ r ∈ entryRows, r.2.1 ≤ fieldAt words k r.2.2.2 ∧ fieldAt words k r.2.2.2 ≤ r.2.2.1

/-- R3 check 4: the ordering checks of the entry of a stand. -/
def EntryOrdered (words : List Word) (k : Stand) : Prop :=
  fieldAt words k 1 < fieldAt words k 2 ∧ (fieldAt words k 1 ≤ fieldAt words k 3 ∧ fieldAt words k 3 ≤ fieldAt words k 2) ∧
    fieldAt words k 15 < fieldAt words k 14 ∧ fieldAt words k 14 < fieldAt words k 16

theorem entryFailure_range {a b : List (Nat × Nat × Nat × Nat)} {r : Nat × Nat × Nat × Nat} (rows : entryRows = a ++ r :: b)
    (inside : ∀ q ∈ a, q.2.1 ≤ fieldAt words k q.2.2.2 ∧ fieldAt words k q.2.2.2 ≤ q.2.2.1)
    (outside : ¬ (r.2.1 ≤ fieldAt words k r.2.2.2 ∧ fieldAt words k r.2.2.2 ≤ r.2.2.1)) :
    entryFailure (entryAt words k) = some r.1 := by
  have first : firstOutside (entryRanges (entryAt words k)) = some r.1 := by
    rw [entryRanges_eq, rows]
    exact firstOutside_map_eq_some inside outside
  rw [entryFailure, first]

theorem entryFailure_inside (inside : EntryInside words k) : entryFailure (entryAt words k) = firstFailing
    [(0x42, decide (fieldAt words k 1 < fieldAt words k 2)),
     (0x43, decide (fieldAt words k 1 ≤ fieldAt words k 3 ∧ fieldAt words k 3 ≤ fieldAt words k 2)),
     (0x4E, decide (fieldAt words k 15 < fieldAt words k 14)), (0x50, decide (fieldAt words k 14 < fieldAt words k 16))] := by
  have none : firstOutside (entryRanges (entryAt words k)) = none := by
    rw [entryRanges_eq]
    exact firstOutside_map_eq_none inside
  rw [entryFailure, none]
  rfl

/-- R3 check 4: the ordering check of an entry that fails first, by the field code it reports. -/
inductive OrderFails (words : List Word) (k : Stand) : Nat → Prop where
  | limits (h : ¬ fieldAt words k 1 < fieldAt words k 2) : OrderFails words k 0x42
  | retract (h : fieldAt words k 1 < fieldAt words k 2)
      (g : ¬ (fieldAt words k 1 ≤ fieldAt words k 3 ∧ fieldAt words k 3 ≤ fieldAt words k 2)) : OrderFails words k 0x43
  | tail (h : fieldAt words k 1 < fieldAt words k 2)
      (g : fieldAt words k 1 ≤ fieldAt words k 3 ∧ fieldAt words k 3 ≤ fieldAt words k 2)
      (f : ¬ fieldAt words k 15 < fieldAt words k 14) : OrderFails words k 0x4E
  | head (h : fieldAt words k 1 < fieldAt words k 2)
      (g : fieldAt words k 1 ≤ fieldAt words k 3 ∧ fieldAt words k 3 ≤ fieldAt words k 2)
      (f : fieldAt words k 15 < fieldAt words k 14) (e : ¬ fieldAt words k 14 < fieldAt words k 16) : OrderFails words k 0x50

theorem entryFailure_order (inside : EntryInside words k) {code : Nat} (h : OrderFails words k code) :
    entryFailure (entryAt words k) = some code := by
  rw [entryFailure_inside inside]
  cases h with
  | limits h => simp [firstFailing, h]
  | retract h g => simp only [firstFailing, h, g, decide_true, decide_false, if_true, Bool.false_eq_true, if_false]
  | tail h g f => simp [firstFailing, h, g, f]
  | head h g f e => simp [firstFailing, h, g, f, e]

theorem entryFailure_none (inside : EntryInside words k) (ordered : EntryOrdered words k) :
    entryFailure (entryAt words k) = none := by
  obtain ⟨limits, retract, tail, head⟩ := ordered
  simp [entryFailure_inside inside, firstFailing, limits, retract, tail, head]

end

/-- R3 check 5: the sum of the shares of a record. -/
theorem shareSum_placeEntries (words : List Word) : shareSum (placeEntries words (maskStands (recWord words 1))) =
    (((List.finRange 7).filter (maskedAt words)).map (fun k => fieldAt words k 9)).sum := by
  have entries : placeEntries words (maskStands (recWord words 1)) =
      Table.build (fun k => if maskedAt words k then some (entryAt words k) else none) := by
    refine congrArg Table.build (funext fun k => ?_)
    have get := placeEntries_get words k
    rwa [placeEntries, Table.get_build] at get
  rw [entries, sum_map_filter, shareSum, Table.build, List.map_map]
  refine congrArg List.sum (List.map_congr_left fun k _ => ?_)
  cases h : maskedAt words k <;> simp [h]; rfl

section
variable {words : List Word} {active : Option Word}

theorem scheduleFault_coil {a b : List (Nat × Nat × Nat × Nat)} {r : Nat × Nat × Nat × Nat} (rows : coilRows words = a ++ r :: b)
    (inside : ∀ q ∈ a, q.2.1 ≤ (words.getD q.2.2.2 0).toNat ∧ (words.getD q.2.2.2 0).toNat ≤ q.2.2.1)
    (outside : ¬ (r.2.1 ≤ (words.getD r.2.2.2 0).toNat ∧ (words.getD r.2.2.2 0).toNat ≤ r.2.2.1)) :
    scheduleFault words active = some (r.1, 0) := by
  have first : firstOutside (coilRanges words) = some r.1 := by
    rw [coilRanges_eq, rows]
    exact firstOutside_map_eq_some inside outside
  rw [scheduleFault, first]

/-- R3: past the coil part's ranges. -/
theorem scheduleFault_inside
    (inside : ∀ q ∈ coilRows words, q.2.1 ≤ (words.getD q.2.2.2 0).toNat ∧ (words.getD q.2.2.2 0).toNat ≤ q.2.2.1) :
    scheduleFault words active =
      if (words.getD 2 0).toNat ≠ ((List.finRange 7).filter (maskedAt words)).length then some (0x22, 0)
      else if active = some (words.getD 0 0) then some (0x20, 0)
      else match allStands.findSome? (fun k => if maskedAt words k then (entryFailure (entryAt words k)).map (·, k) else none) with
        | some (code, k) => some (code, k.val + 1)
        | none => if (((List.finRange 7).filter (maskedAt words)).map (fun k => fieldAt words k 9)).sum ≤ 256 then none
            else some (0x49, 0) := by
  have none : firstOutside (coilRanges words) = none := by
    rw [coilRanges_eq]
    exact firstOutside_map_eq_none inside
  have failure : firstEntryFailure (placeEntries words (maskStands (recWord words 1))) allStands =
      allStands.findSome? (fun k => if maskedAt words k then (entryFailure (entryAt words k)).map (·, k) else Option.none) := by
    rw [firstEntryFailure_eq]
    congr 1
    funext k
    rw [placeEntries_get]
    cases maskedAt words k <;> rfl
  simp only [scheduleFault, none, failure, shareSum_placeEntries]
  rfl

end

/-- Settles O19: the checks of the record follow one another, and a stand entry is read at its place in the mask. -/
theorem scheduleRecordsAreCheckedAndRead : Obligations.ScheduleRecordsAreCheckedAndRead := by
  intro words active serial
  dsimp only
  refine ⟨fun a r b => scheduleFault_coil (a := a) (r := r) (b := b), fun inside => ?_, ?_⟩
  · have checked := scheduleFault_inside (active := active) inside
    split
    · next count => exact checked.trans (if_pos count)
    · next count =>
      replace checked := checked.trans (if_neg count)
      split
      · next same => exact checked.trans (if_pos same)
      · next other =>
        replace checked := checked.trans (if_neg other)
        refine ⟨fun k masked before => ?_, fun pass => ?_⟩
        · have clear (j : Stand) (h : j < k) :
              (if maskedAt words j then (entryFailure (entryAt words j)).map (·, j) else none) = none := by
            split
            · next hj =>
              obtain ⟨inside, ordered⟩ := before j h hj
              rw [entryFailure_none inside ordered]; rfl
            · rfl
          have fails {code : Nat} (h : entryFailure (entryAt words k) = some code) :
              scheduleFault words active = some (code, k.val + 1) := by
            have found : allStands.findSome? (fun k => if maskedAt words k then (entryFailure (entryAt words k)).map (·, k) else none) =
                some (code, k) :=
              findSome?_eq_some_of_sorted allStands_sorted (mem_allStands k)
                (by rw [if_pos (show maskedAt words k = true from masked), h]; rfl) clear
            rw [checked, found]
          refine ⟨fun a r b rows inside outside => fails (entryFailure_range rows inside outside), fun inside => ?_⟩
          refine ⟨fun h1 => fails ?_, fun h1 h2 => fails ?_, fun h1 h2 h3 => fails ?_, fun h1 h2 h3 h4 => fails ?_⟩
          · exact entryFailure_order inside (.limits h1)
          · exact entryFailure_order inside (.retract h1 h2)
          · exact entryFailure_order inside (.tail h1 h2 h3)
          · exact entryFailure_order inside (.head h1 h2 h3 h4)
        · have none : allStands.findSome? (fun k => if maskedAt words k then (entryFailure (entryAt words k)).map (·, k) else none) =
              none := List.findSome?_eq_none_iff.mpr fun k _ => by
            split
            · next hk =>
              obtain ⟨inside, ordered⟩ := pass k hk
              rw [entryFailure_none inside ordered]; rfl
            · rfl
          rw [checked, none]
          rfl
  · refine ⟨placeEntries words (maskStands (recWord words 1)), rfl, fun k => ?_⟩
    rw [placeEntries_get]
    rfl

/-! ### The copy and its end -/

/-- R2: the copy ends now, and its record is checked and placed. -/
theorem exec_scheduleCopyEnd {s : State} (h : Timely s) {i : Fin 32} {args : List Word} {copy : Option (List Word)}
    (ht : s.ord.taken = some ⟨i, .loadSchedule, args, .copying s.clock copy⟩) :
    exec .scheduleCopyEnd s =
      .next (State.completeWith (answerLoadSchedule s ⟨i, .loadSchedule, args, .copying s.clock copy⟩ copy)) := by
  have settled : Settled s := ⟨h, by simp [State.dueAt, State.orderHanded, ht]⟩
  have due : s.dueAt .copyEnd = some s.clock := by simp [State.dueAt, ht]
  refine congrArg Host.Outcome.next ((State.takeDue_now settled due).trans ?_)
  rw [State.fire, State.copyEndEvent, ht]

/-- R4: the node table has a node of a role for a stand. -/
def State.hasNode (s : State) (role : Role) (k : Stand) : Bool :=
  s.lnk.nodes.any (fun n => n.role == role && n.stand == some k)

theorem State.nodeFor_isNone (s : State) (role : Role) (k : Stand) : (s.nodeFor role (some k)).isNone = !s.hasNode role k := by
  rw [← Option.not_isSome, Bool.not_inj_iff, Bool.eq_iff_iff]
  simp [State.nodeFor, State.hasNode]

/-- R4: the first role that a stand of the record lacks. -/
def State.lacks (s : State) (entries : Table 7 (Option StandEntry)) (k : Stand) : Option (Stand × Role) :=
  if (entries.get k).isSome then [(k, Role.gap), (k, Role.force), (k, Role.speed)].find? (fun p => !s.hasNode p.2 p.1) else none

theorem State.missingNode_eq (s : State) (entries : Table 7 (Option StandEntry)) :
    s.missingNode entries = allStands.findSome? (s.lacks entries) := by
  simp only [State.missingNode, List.find?_flatMap, State.nodeFor_isNone]
  congr 1
  funext k
  rw [State.lacks]
  split <;> rfl

section
variable {s : State} {entries : Table 7 (Option StandEntry)} {k : Stand}

/-- R4: a stand of the record that lacks no node. -/
theorem State.lacks_none (h : (entries.get k).isSome = true → s.hasNode .gap k = true ∧ s.hasNode .force k = true ∧
    s.hasNode .speed k = true) : s.lacks entries k = none := by
  rw [State.lacks]
  split
  · next entry =>
    obtain ⟨gap, force, speed⟩ := h entry
    simp [gap, force, speed]
  · rfl

theorem State.lacks_gap (entry : (entries.get k).isSome = true) (gap : s.hasNode .gap k = false) :
    s.lacks entries k = some (k, .gap) := by simp [State.lacks, entry, gap]

theorem State.lacks_force (entry : (entries.get k).isSome = true) (gap : s.hasNode .gap k = true)
    (force : s.hasNode .force k = false) : s.lacks entries k = some (k, .force) := by simp [State.lacks, entry, gap, force]

theorem State.lacks_speed (entry : (entries.get k).isSome = true) (gap : s.hasNode .gap k = true)
    (force : s.hasNode .force k = true) (speed : s.hasNode .speed k = false) : s.lacks entries k = some (k, .speed) := by
  simp [State.lacks, entry, gap, force, speed]

/-- R4: the first stand of the record that lacks a node is named with the role. -/
theorem State.missingNode_some {role : Role} (lack : s.lacks entries k = some (k, role))
    (before : ∀ j, j < k → (entries.get j).isSome = true → s.hasNode .gap j = true ∧ s.hasNode .force j = true ∧
      s.hasNode .speed j = true) : s.missingNode entries = some (k, role) := by
  rw [State.missingNode_eq]
  exact findSome?_eq_some_of_sorted allStands_sorted (mem_allStands k) lack fun j hj => State.lacks_none (before j hj)

theorem State.missingNode_none (whole : ∀ k, (entries.get k).isSome = true → s.hasNode .gap k = true ∧
    s.hasNode .force k = true ∧ s.hasNode .speed k = true) : s.missingNode entries = none := by
  rw [State.missingNode_eq, List.findSome?_eq_none_iff]
  exact fun k _ => State.lacks_none (whole k)

end

section
variable {s : State} {t : Taken} {words : List Word}

theorem answerLoadSchedule_fault {code stand : Nat}
    (h : scheduleFault words (s.stu.active.map (·.sched.coilId)) = some (code, stand)) :
    answerLoadSchedule s t (some words) = (s, .badArgument, [natWord code, natWord stand]) := by
  simp only [answerLoadSchedule, h]

theorem answerLoadSchedule_missing (ok : scheduleFault words (s.stu.active.map (·.sched.coilId)) = none) {k : Stand} {role : Role}
    (h : s.missingNode (readSchedule words s.stu.nextSerial).entries = some (k, role)) :
    answerLoadSchedule s t (some words) = (s, .nodeMissing, [natWord (standNumber k), natWord role.code]) := by
  simp only [answerLoadSchedule, ok, h]

/-- R6: a record without fault, all its nodes in the table. -/
theorem answerLoadSchedule_sound (ok : scheduleFault words (s.stu.active.map (·.sched.coilId)) = none)
    (whole : s.missingNode (readSchedule words s.stu.nextSerial).entries = none) :
    answerLoadSchedule s t (some words) =
      if s.stu.pending.isSome ∧ (t.arg 1).getLsbD 0 = false then (s, .pendingBusy, [])
      else if s.stu.pending.isSome ∧ s.switchProgress ≠ 0 then (s, .switchInProgress, [])
      else ((s.arm (readSchedule words s.stu.nextSerial)).1, .ok, [natWord (s.arm (readSchedule words s.stu.nextSerial)).2]) := by
  simp only [answerLoadSchedule, ok, whole]

end

/-- Settles O18: the copy starts at once; at its end the checks of R3, R4 and R6 follow one another. -/
theorem loadScheduleCopiesAndRefuses : Obligations.LoadScheduleCopiesAndRefuses := by
  refine ⟨fun s i args => ?_, fun s i args copy => ?_⟩
  · dsimp only
    intro ht
    refine congrArg Host.Outcome.next ?_
    rw [State.startCopy, State.handedOrder_of ht rfl]
    simp only [stagingOffsetOk_iff, scheduleRecordSize, stagingBase, State.setPhase, ht]
    rfl
  · dsimp only
    intro timely ht
    have refused {o : OrderOutcome} {rs : List Word}
        (h : answerLoadSchedule s ⟨i, .loadSchedule, args, .copying s.clock copy⟩ copy = (s, o, rs)) :
        exec .scheduleCopyEnd s = .next (s.complete o rs) := by
      rw [exec_scheduleCopyEnd timely ht, h]; rfl
    refine ⟨fun hc => refused (by rw [hc]; rfl), fun words hc => ?_⟩
    subst hc
    refine ⟨fun code stand h => refused (answerLoadSchedule_fault h), fun ok => ⟨fun k entry before => ?_, fun whole held => ?_⟩⟩
    · have whole (j : Stand) (hj : j < k) (hentry : ((readSchedule words s.stu.nextSerial).entries.get j).isSome = true) :
          s.hasNode .gap j = true ∧ s.hasNode .force j = true ∧ s.hasNode .speed j = true := before j hj hentry
      have missing {role : Role} (lack : s.lacks (readSchedule words s.stu.nextSerial).entries k = some (k, role)) :
          exec .scheduleCopyEnd s = .next (s.complete .nodeMissing [BitVec.ofNat 32 (k.val + 1), BitVec.ofNat 32 role.code]) :=
        refused (answerLoadSchedule_missing ok (State.missingNode_some lack whole))
      exact ⟨fun gap => missing (role := .gap) (State.lacks_gap entry gap), fun gap force => missing (role := .force) (State.lacks_force entry gap force),
        fun gap force speed => missing (role := .speed) (State.lacks_speed entry gap force speed)⟩
    · have sound := answerLoadSchedule_sound (t := ⟨i, .loadSchedule, args, .copying s.clock (some words)⟩) ok
        (State.missingNode_none whole)
      have held : s.stu.pending.isSome = true := Option.isSome_iff_ne_none.mpr held
      refine ⟨fun flag => refused (sound.trans (if_pos ⟨held, flag⟩)), fun flag progress => refused (sound.trans ?_)⟩
      rw [if_neg (fun h => absurd (h.2.symm.trans flag) Bool.false_ne_true), if_pos ⟨held, progress⟩]

end Sys2Proof.Machine


/-! ## The switch test -/

namespace Sys2Proof.Machine

open Safety

/-! ### Searches over the stands, in both orders -/

/-- A search in increasing order finds the lowest stand that passes. -/
theorem allStands_find?_iff {p : Stand → Bool} {k : Stand} :
    allStands.find? p = some k ↔ p k = true ∧ ∀ j, j < k → p j = false := by
  refine ⟨fun h => ?_, fun ⟨hk, before⟩ => allStands_find?_eq_some hk before⟩
  refine ⟨List.find?_some h, fun j hj => ?_⟩
  rw [allStands_eq_finRange, List.find?_eq_some_iff_getElem] at h
  obtain ⟨-, i, hi, hik, before⟩ := h
  have : j.val < i := by rw [← hik] at hj; simpa [Fin.lt_def] using hj
  simpa using before j.val this

/-- A search in decreasing order finds the highest stand that passes. -/
theorem standsDown_find?_iff {p : Stand → Bool} {k : Stand} :
    standsDown.find? p = some k ↔ p k = true ∧ ∀ j, k < j → p j = false := by
  have down : standsDown = allStands.map Fin.rev := by decide
  rw [down, List.find?_map, Option.map_eq_some_iff]
  constructor
  · rintro ⟨a, ha, rfl⟩
    obtain ⟨hp, before⟩ := allStands_find?_iff.mp ha
    exact ⟨hp, fun j hj => by simpa using before j.rev (by rw [← Fin.rev_lt_rev]; simpa using hj)⟩
  · rintro ⟨hp, before⟩
    exact ⟨k.rev, allStands_find?_iff.mpr ⟨by simpa using hp, fun j hj => before j.rev (by rw [← Fin.rev_lt_rev]; simpa using hj)⟩,
      Fin.rev_rev k⟩

theorem mem_standsDown (k : Stand) : k ∈ standsDown := by revert k; decide

theorem Schedule.inService_eq_false {c : Schedule} {k : Stand} : c.inService k = false ↔ c.entries.get k = none := by
  simp [Schedule.inService]

/-- R60: the highest-numbered in-service stand. -/
theorem Schedule.lastStand_eq_some {c : Schedule} {k : Stand} :
    c.lastStand = some k ↔ (c.entries.get k).isSome = true ∧ ∀ j, k < j → c.entries.get j = none := by
  simp only [Schedule.lastStand, standsDown_find?_iff, Schedule.inService_eq_false]
  rfl

/-- R8: the first in-service stand numbered as `k` or higher. -/
theorem Schedule.firstFrom_eq_some {c : Schedule} {k j : Stand} : c.firstFrom k = some j ↔
    k ≤ j ∧ (c.entries.get j).isSome = true ∧ ∀ i, k ≤ i → i < j → c.entries.get i = none := by
  simp only [Schedule.firstFrom, allStands_find?_iff, Bool.and_eq_true, decide_eq_true_eq, Bool.and_eq_false_iff,
    decide_eq_false_iff_not, and_assoc, Schedule.inService]
  refine and_congr_right fun _ => and_congr_right fun _ => ⟨fun h i hk hj => Schedule.inService_eq_false.mp ((h i hj).resolve_left (not_not.mpr hk)), fun h i hj => ?_⟩
  rcases le_or_gt k i with hk | hk
  · exact Or.inr (Schedule.inService_eq_false.mpr (h i hk hj))
  · exact Or.inl (not_le.mpr hk)

/-! ### Free stands -/

/-- R8: a segment has yet to cross the point of the first in-service stand numbered as `k` or higher, or the gauge's. -/
def Segment.awaits (c : Schedule) (k : Stand) (g : Segment) : Bool :=
  match c.firstFrom k with
  | none => true
  | some p => !g.list.any (fun e => e.1 == p)

theorem State.coilUpstream_eq (s : State) (c : Schedule) (k : Stand) : s.coilUpstream c k =
    (s.trk.segs.any (fun g => g.coilId == c.coilId && g.awaits c k) || s.trk.creation.any (fun r => r.coilId == c.coilId)) := rfl

theorem Segment.awaits_eq_false {c : Schedule} {k : Stand} {g : Segment} : g.awaits c k = false ↔
    ∃ j, k ≤ j ∧ (c.entries.get j).isSome = true ∧ (∀ i, k ≤ i → i < j → c.entries.get i = none) ∧ ∃ e ∈ g.list, e.1 = j := by
  rw [Segment.awaits]
  cases hf : c.firstFrom k with
  | none =>
    simp only [Bool.true_eq_false, false_iff]
    rintro ⟨j, h1, h2, h3, -⟩
    rw [Schedule.firstFrom_eq_some.mpr ⟨h1, h2, h3⟩] at hf
    cases hf
  | some p =>
    obtain ⟨h1, h2, h3⟩ := Schedule.firstFrom_eq_some.mp hf
    simp only [Bool.not_eq_false', List.any_eq_true, beq_iff_eq]
    refine ⟨fun h => ⟨p, h1, h2, h3, h⟩, fun ⟨j, g1, g2, g3, e, he, hj⟩ => ?_⟩
    have same : c.firstFrom k = some j := Schedule.firstFrom_eq_some.mpr ⟨g1, g2, g3⟩
    rw [hf, Option.some.injEq] at same
    exact ⟨e, he, hj.trans same.symm⟩

theorem State.coilUpstream_eq_false {s : State} {c : Schedule} {k : Stand} : s.coilUpstream c k = false ↔
    (∀ g ∈ s.trk.segs, g.coilId = c.coilId → g.awaits c k = false) ∧ ∀ r, s.trk.creation = some r → r.coilId ≠ c.coilId := by
  rw [State.coilUpstream_eq, Bool.or_eq_false_iff, List.any_eq_false]
  refine and_congr (forall₂_congr fun g _ => ?_) ?_
  · rw [Bool.and_eq_true, not_and, Bool.not_eq_true, beq_iff_eq]
  · cases s.trk.creation <;> simp

/-- R8: when a stand is free. -/
theorem State.free_iff (s : State) (k : Stand) : s.free k = true ↔ (s.stand k).bite = .empty ∧ ∀ c, s.schedOf k = some c →
    (∀ g ∈ s.trk.segs, g.coilId = c.coilId → ∃ j, k ≤ j ∧ (c.entries.get j).isSome = true ∧
      (∀ i, k ≤ i → i < j → c.entries.get i = none) ∧ ∃ e ∈ g.list, e.1 = j) ∧
    ∀ r, s.trk.creation = some r → r.coilId ≠ c.coilId := by
  rw [State.free, Bool.and_eq_true, beq_iff_eq]
  refine and_congr_right fun _ => ?_
  cases hc : s.schedOf k with
  | none => simp
  | some c => simp only [Option.some.injEq, forall_eq', Bool.not_eq_true', State.coilUpstream_eq_false, Segment.awaits_eq_false]

/-! ### Switching -/

/-- R10: the record of a stand that switches. -/
def StandRec.switched (r : StandRec) : StandRec :=
  { r with use := .pending, trim := 0, lockCount := 0, lockSum := 0, debounce := 0 }

/-- R10: GAP's record of a stand that switches. -/
def GapRec.switched (g : GapRec) : GapRec := { g with integrator := 0, hLock := none }

/-- R10: stand `k` switches to the pending schedule; the coil change is yet to complete. -/
def State.switchOne (p : HeldSchedule) (s : State) (k : Stand) : State :=
  let s := ((s.modifyStand k StandRec.switched).modifyGap k GapRec.switched).chargeSwitch k
  if p.sched.lastStand = some k then { s with gap := { s.gap with mi := 0 } } else s

theorem State.switchStand_eq (s : State) (p : HeldSchedule) (k : Stand) :
    s.switchStand p k = if k = 6 then (s.switchOne p k).completeChange p else s.switchOne p k := rfl

/-- R10: a switch within the work of a computation is charged to it. -/
theorem State.chargeSwitch_working {s : State} {x : Computation} (hx : s.comp = some x) (hw : x.working = true) (k : Stand) :
    s.chargeSwitch k = { s with comp := some { x with switches := x.switches + 1, switched := x.switched.set k true } } := by
  simp only [State.chargeSwitch, hx, if_pos hw]

/-- R10: another switch is charged to the computation that starts next, in HALTED to none. -/
theorem State.chargeSwitch_later {s : State} (h : ∀ x, s.comp = some x → x.working = false) (k : Stand) :
    s.chargeSwitch k = { s with stu := { s.stu with
      switchCharge := if s.lnk.runState = .halted then s.stu.switchCharge else s.stu.switchCharge + 1 } } := by
  have later : s.chargeSwitch k = if s.lnk.runState = .halted then s
      else { s with stu := { s.stu with switchCharge := s.stu.switchCharge + 1 } } := by
    rw [State.chargeSwitch]
    split
    · rfl
    · next x hx => rw [if_neg (by rw [h x hx]; exact Bool.false_ne_true)]
  rw [later]
  split <;> rfl

/-- R10: what one switch changes. -/
theorem State.switchOne_eq (p : HeldSchedule) (s : State) (k : Stand) : s.switchOne p k = { s with
    stu := { s.stu with stands := s.stu.stands.modify k StandRec.switched, switchCharge := (s.chargeSwitch k).stu.switchCharge }
    gap := { s.gap with
      stands := s.gap.stands.modify k GapRec.switched, mi := if p.sched.lastStand = some k then 0 else s.gap.mi }
    comp := (s.chargeSwitch k).comp } := by
  by_cases hw : ∃ x, s.comp = some x ∧ x.working = true
  · obtain ⟨x, hx, hw⟩ := hw
    rw [State.switchOne, State.chargeSwitch_working hx hw, State.chargeSwitch_working (s := (s.modifyStand k _).modifyGap k _) hx hw]
    split <;> rfl
  · have hw : ∀ x, s.comp = some x → x.working = false := fun x hx => by
      by_contra h
      exact hw ⟨x, hx, by simpa using h⟩
    rw [State.switchOne, State.chargeSwitch_later hw, State.chargeSwitch_later (s := (s.modifyStand k _).modifyGap k _) hw]
    split <;> rfl

theorem Table.get_modify {n : Nat} {α : Type} (t : Table n α) (i j : Fin n) (f : α → α) :
    (t.modify i f).get j = if j = i then f (t.get j) else t.get j := by
  rw [Table.modify]
  split
  · next h => subst h; exact Table.get_set_same _ _ _
  · next h => exact Table.get_set_other _ _ _ _ (Ne.symm h)

/-- R9, R10: what the switches of the stands of a list leave, before the coil change completes. -/
structure State.Switched (p : HeldSchedule) (s : State) (ks : List Stand) (t : State) : Prop where
  stands : ∀ k, t.stand k = if k ∈ ks then (s.stand k).switched else s.stand k
  gaps : ∀ k, t.gapStand k = if k ∈ ks then (s.gapStand k).switched else s.gapStand k
  mi : t.gap.mi = if ∃ k ∈ ks, p.sched.lastStand = some k then 0 else s.gap.mi
  charged : ∀ x, s.comp = some x → x.working = true → t.stu.switchCharge = s.stu.switchCharge ∧
    ∃ y, t.comp = some y ∧ y = { x with switches := x.switches + ks.length, switched := y.switched } ∧
      ∀ k, y.switched.get k = (x.switched.get k || decide (k ∈ ks))
  later : (∀ x, s.comp = some x → x.working = false) → t.comp = s.comp ∧
    t.stu.switchCharge = if s.lnk.runState = .halted then s.stu.switchCharge else s.stu.switchCharge + ks.length
  frame : t = { s with
    stu := { s.stu with stands := t.stu.stands, switchCharge := t.stu.switchCharge }
    gap := { s.gap with stands := t.gap.stands, mi := t.gap.mi }
    comp := t.comp }

theorem State.Switched.nil (p : HeldSchedule) (s : State) : s.Switched p [] s where
  stands k := by simp
  gaps k := by simp
  mi := by simp
  charged x hx hw := ⟨rfl, x, hx, by simp, by simp⟩
  later h := ⟨rfl, by simp⟩
  frame := rfl

/-- One stand more switches. -/
theorem State.Switched.snoc {p : HeldSchedule} {s t : State} {ks : List Stand} (h : s.Switched p ks t) {k : Stand} (new : k ∉ ks) :
    s.Switched p (ks ++ [k]) (t.switchOne p k) := by
  have more (j : Stand) : j ∈ ks ++ [k] ↔ j = k ∨ j ∈ ks := by simp [or_comm]
  constructor
  case stands =>
    intro j
    simp only [State.switchOne_eq, State.stand, Table.get_modify, more]
    have := h.stands j
    by_cases hj : j = k
    · subst hj
      simp_all [State.stand]
    · simp_all [State.stand]
  case gaps =>
    intro j
    simp only [State.switchOne_eq, State.gapStand, Table.get_modify, more]
    have := h.gaps j
    by_cases hj : j = k
    · subst hj
      simp_all [State.gapStand]
    · simp_all [State.gapStand]
  case mi =>
    simp only [State.switchOne_eq, more]
    have := h.mi
    by_cases hl : p.sched.lastStand = some k
    · rw [if_pos hl, if_pos ⟨k, Or.inl rfl, hl⟩]
    · rw [if_neg hl, this]
      congr 1
      simp [or_and_right, exists_or, hl]
  case charged =>
    intro x hx hw
    obtain ⟨charge, y, hy, same, flags⟩ := h.charged x hx hw
    have working : y.working = true := by rw [same]; exact hw
    rw [State.switchOne_eq, State.chargeSwitch_working hy working]
    refine ⟨charge, _, rfl, ?_, fun j => ?_⟩
    · rw [same]
      simp [Nat.add_assoc]
    · by_cases hj : k = j
      · subst hj; simp
      · simp [Table.get_set_other _ _ _ _ hj, flags, Ne.symm hj]
  case later =>
    intro idle
    obtain ⟨comp, charge⟩ := h.later idle
    have idle' : ∀ x, t.comp = some x → x.working = false := by rw [comp]; exact idle
    have run : t.lnk.runState = s.lnk.runState := by rw [h.frame]
    rw [State.switchOne_eq, State.chargeSwitch_later idle', run]
    refine ⟨comp, ?_⟩
    rw [charge]
    split <;> simp [Nat.add_assoc]
  case frame => 
    rw [State.switchOne_eq, h.frame]

/-- R9: the stands that a switch test over the stands listed switches. -/
def State.switching (s : State) : List Stand → List Stand
  | [] => []
  | k :: ks =>
    if (s.stand k).use = .pending then s.switching ks
    else if s.free k then k :: s.switching ks
    else []

/-- R9: of stands in increasing order those switch that are not on PENDING and have only free ones up to them. -/
theorem State.mem_switching {s : State} {ks : List Stand} (sorted : ks.Pairwise (· < ·)) {j : Stand} :
    j ∈ s.switching ks ↔ j ∈ ks ∧ (s.stand j).use ≠ .pending ∧
      ∀ i ∈ ks, i ≤ j → (s.stand i).use ≠ .pending → s.free i = true := by
  induction ks with
  | nil => simp [State.switching]
  | cons k ks ih =>
    obtain ⟨least, rest⟩ := List.pairwise_cons.mp sorted
    rw [State.switching]
    split
    · next used =>
      rw [ih rest]
      constructor
      · rintro ⟨mem, unused, free⟩
        refine ⟨List.mem_cons_of_mem _ mem, unused, fun i hi hj unused => ?_⟩
        rcases List.mem_cons.mp hi with rfl | hi
        · exact absurd used unused
        · exact free i hi hj unused
      · rintro ⟨mem, unused, free⟩
        refine ⟨(List.mem_cons.mp mem).resolve_left ?_, unused, fun i hi => free i (List.mem_cons_of_mem _ hi)⟩
        rintro rfl
        exact unused used
    · next unused =>
      split
      · next hk =>
        rw [List.mem_cons, ih rest]
        constructor
        · rintro (rfl | ⟨mem, unused', free⟩)
          · refine ⟨List.mem_cons_self, unused, fun i hi hj _ => ?_⟩
            rcases List.mem_cons.mp hi with rfl | hi
            · exact hk
            · exact absurd (least i hi) (not_lt.mpr hj)
          · refine ⟨List.mem_cons_of_mem _ mem, unused', fun i hi hj unused => ?_⟩
            rcases List.mem_cons.mp hi with rfl | hi
            · exact hk
            · exact free i hi hj unused
        · rintro ⟨mem, unused', free⟩
          rcases List.mem_cons.mp mem with rfl | mem
          · exact Or.inl rfl
          · exact Or.inr ⟨mem, unused', fun i hi => free i (List.mem_cons_of_mem _ hi)⟩
      · next hk =>
        refine ⟨fun h => absurd h List.not_mem_nil, fun ⟨mem, _, free⟩ => absurd (free k List.mem_cons_self ?_ unused) hk⟩
        rcases List.mem_cons.mp mem with rfl | mem
        · exact le_rfl
        · exact (least j mem).le

theorem State.switching_sublist (s : State) (ks : List Stand) : (s.switching ks).Sublist ks := by
  induction ks with
  | nil => exact List.Sublist.refl _
  | cons k ks ih =>
    rw [State.switching]
    split
    · exact ih.cons k
    · split
      · exact ih.cons_cons k
      · exact List.nil_sublist _

section
variable {p : HeldSchedule} {s t : State} {ks : List Stand}

/-- R8: the switches of other stands leave a stand as free as it was. -/
theorem State.Switched.free (h : s.Switched p ks t) {k : Stand} (hk : k ∉ ks) : t.free k = s.free k := by
  have record : t.stand k = s.stand k := by rw [h.stands, if_neg hk]
  have active : t.stu.active = s.stu.active := by rw [h.frame]
  have pending : t.stu.pending = s.stu.pending := by rw [h.frame]
  have slot (u : Use) : t.slotOf u = s.slotOf u := by cases u <;> simp [State.slotOf, active, pending]
  have trk : t.trk = s.trk := by rw [h.frame]
  simp [State.free, State.schedOf, State.coilUpstream, record, slot, trk]

/-- R9: the switch test over stands in increasing order, others having switched before. -/
theorem State.Switched.through (hp : s.stu.pending = some p) (h : s.Switched p ks t) {js : List Stand}
    (sorted : js.Pairwise (· < ·)) (apart : ∀ k ∈ js, k ∉ ks) :
    ∃ u, s.Switched p (ks ++ s.switching js) u ∧
      switchThrough js t = if 6 ∈ s.switching js then u.completeChange p else u := by
  induction js generalizing t ks with
  | nil => exact ⟨t, by simpa [State.switching] using h, by simp [switchThrough, State.switching]⟩
  | cons k js ih =>
    obtain ⟨least, rest⟩ := List.pairwise_cons.mp sorted
    have new : k ∉ ks := apart k List.mem_cons_self
    have pending : t.stu.pending = some p := by rw [h.frame]; exact hp
    have record : t.stand k = s.stand k := by rw [h.stands, if_neg new]
    rw [switchThrough_cons k js pending, record, h.free new, State.switching]
    by_cases used : (s.stand k).use = .pending
    · rw [if_pos used, if_pos used]
      exact ih h rest fun j hj => apart j (List.mem_cons_of_mem _ hj)
    · rw [if_neg used, if_neg used]
      by_cases free : s.free k = true
      · rw [if_pos free, if_pos free, State.switchStand_eq]
        by_cases last : k = 6
        · have none : js = [] := List.eq_nil_iff_forall_not_mem.mpr fun j hj => by
            rw [last] at least
            exact absurd (least j hj) (not_lt.mpr (Fin.le_last j))
          subst none
          exact ⟨t.switchOne p k, h.snoc new, by simp [last, switchThrough, State.switching]⟩
        · rw [if_neg last]
          obtain ⟨u, switched, eq⟩ := ih (h.snoc new) rest fun j hj hmem => by
            rcases List.mem_append.mp hmem with hmem | hmem
            · exact apart j (List.mem_cons_of_mem _ hj) hmem
            · exact absurd (least j hj) (by rw [List.mem_singleton.mp hmem]; exact lt_irrefl _)
          refine ⟨u, by simpa using switched, ?_⟩
          rw [eq]
          simp [List.mem_cons, Ne.symm last]
      · rw [if_neg free, if_neg free]
        exact ⟨t, by simpa using h, by simp⟩

end

/-- R9: the switch test, with a schedule pending. -/
theorem State.switchTest_eq {p : HeldSchedule} {s : State} (hp : s.stu.pending = some p) :
    ∃ u, s.Switched p (s.switching allStands) u ∧
      s.switchTest = if 6 ∈ s.switching allStands then u.completeChange p else u := by
  simpa [State.switchTest] using (State.Switched.nil p s).through hp allStands_sorted (by simp)

/-- R11, R105: the coil figures left when the coil change completes. -/
def State.figuresChanged (s : State) : List Figures :=
  match s.stu.active with
  | none => s.gap.figures
  | some o => if s.carried o.sched.serial then s.gap.figures else s.gap.figures.filter (fun f => f.serial != o.sched.serial)

/-- R11, R105, R112: what the completion of a coil change leaves. -/
theorem State.completeChange_eq (s : State) (p : HeldSchedule) : s.completeChange p = { s with
    stu := { s.stu with active := some p, pending := none, stands := s.stu.stands.map (fun r => { r with use := .active }) }
    gap := { s.gap with mi := clampAbs p.sched.miMax s.gap.mi, figures := s.figuresChanged }
    news := { s.news with coil := true }
    irq := (s.completeChange p).irq, irqSignals := (s.completeChange p).irqSignals } := by
  have note (x : State) : x.noteCoil = { x with
      news := { x.news with coil := true }, irq := x.noteCoil.irq, irqSignals := x.noteCoil.irqSignals } := rfl
  rw [State.completeChange, State.figuresChanged]
  dsimp only
  cases hs : s.stu.active with
  | none => exact note _
  | some o =>
    dsimp only
    rw [show ∀ (x : State), x.trk = s.trk → x.carried o.sched.serial = s.carried o.sched.serial from
      fun x hx => by simp only [State.carried, hx]]
    · split
      · exact note _
      · exact note _
    · rfl

theorem State.figuresChanged_congr {s t : State} (active : t.stu.active = s.stu.active) (figures : t.gap.figures = s.gap.figures)
    (trk : t.trk = s.trk) : t.figuresChanged = s.figuresChanged := by
  simp only [State.figuresChanged, State.carried, active, figures, trk]
  rfl

/-- R105: a segment, or an open creation record, belongs to the schedule. -/
theorem State.carried_iff (s : State) (serial : Nat) : s.carried serial = true ↔ (∃ g ∈ s.trk.segs, g.serial = serial) ∨
    ∃ r, s.trk.creation = some r ∧ r.serial = serial := by
  rw [State.carried, Bool.or_eq_true, List.any_eq_true, Option.any_eq_true]
  simp

theorem List.length_eq_of_mem_iff {α : Type} {l m : List α} (hl : l.Nodup) (hm : m.Nodup) (h : ∀ a, a ∈ l ↔ a ∈ m) :
    l.length = m.length := ((List.perm_ext_iff_of_nodup hl hm).mpr h).length_eq

/-- Settles O21: the stands switch one after another, and the last of them completes the coil change. -/
theorem switchTestSwitchesTheFreeStands : Obligations.SwitchTestSwitchesTheFreeStands := by
  intro s
  dsimp only
  refine ⟨s.free_iff, State.switchTest_none, fun p switches hp hs => ?_⟩
  obtain ⟨u, switched, test⟩ := State.switchTest_eq hp
  have mem (k : Stand) : k ∈ s.switching allStands ↔ switches k = true := by
    rw [State.mem_switching allStands_sorted, hs]
    simp [mem_allStands]
  have count : (s.switching allStands).length = ((List.finRange 7).filter switches).length :=
    List.length_eq_of_mem_iff ((s.switching_sublist allStands).nodup (by decide)) ((List.nodup_finRange 7).filter _)
      (by simp [mem])
  have stands (k : Stand) : u.stand k = if switches k then (s.stand k).switched else s.stand k := by
    simp only [switched.stands, mem]
  have gaps (k : Stand) : u.gapStand k = if switches k then (s.gapStand k).switched else s.gapStand k := by
    simp only [switched.gaps, mem]
  have mi : u.gap.mi = if ∃ k, switches k = true ∧ (p.sched.entries.get k).isSome = true ∧
      ∀ j, k < j → p.sched.entries.get j = none then 0 else s.gap.mi := by
    simp only [switched.mi, mem, Schedule.lastStand_eq_some]
  have charged (x : Computation) (hx : s.comp = some x) (hw : x.working = true) :
      u.stu.switchCharge = s.stu.switchCharge ∧ ∃ y, u.comp = some y ∧
        y = { x with switches := x.switches + ((List.finRange 7).filter switches).length, switched := y.switched } ∧
        ∀ k, y.switched.get k = (x.switched.get k || switches k) := by
    obtain ⟨charge, y, hy, same, flags⟩ := switched.charged x hx hw
    exact ⟨charge, y, hy, by rw [← count]; exact same, fun k => by rw [flags]; simp [mem]⟩
  have later := switched.later
  have frame := switched.frame
  have irq : u.irq = s.irq := by rw [frame]
  have signals : u.irqSignals = s.irqSignals := by rw [frame]
  have same : u.gap.figures = s.gap.figures := by rw [frame]
  rw [count] at later
  simp only [mem] at test
  cases completes : switches 6 with
  | false =>
    rw [completes, if_neg Bool.false_ne_true] at test
    rw [test]
    simp only [Bool.false_eq_true, if_false, not_false_eq_true, forall_const, false_implies, true_and]
    refine ⟨fun k => stands k, gaps, ⟨mi, same⟩, charged, later, ?_, irq, signals⟩
    rw [irq, signals, same, ← hp]
    exact frame
  | true =>
    rw [completes, if_pos rfl] at test
    rw [test]
    have change := u.completeChange_eq p
    have figures : u.figuresChanged = s.figuresChanged :=
      State.figuresChanged_congr (by rw [frame]) same (by rw [frame])
    rw [figures] at change
    generalize u.completeChange p = t at change ⊢
    have tstu := congrArg State.stu change
    have tgap := congrArg State.gap change
    have tcomp : t.comp = u.comp := by rw [change]
    dsimp only at tstu tgap
    have tmi : t.gap.mi = clampAbs p.sched.miMax u.gap.mi := by rw [tgap]
    have tfigures : t.gap.figures = s.figuresChanged := by rw [tgap]
    have tcharge : t.stu.switchCharge = u.stu.switchCharge := by rw [tstu]
    simp only [not_true_eq_false, false_implies, true_and, and_true, forall_const, if_true, tcomp, tcharge, tfigures, ← mi]
    refine ⟨fun k => ?_, fun k => ?_, ⟨fun h => ?_, fun h => ?_, fun h => ?_, fun h => ?_, fun o h => ⟨fun held => ?_, fun free => ?_⟩⟩,
      charged, later, ?_⟩
    · have record : t.stand k = { u.stand k with use := .active } := by
        rw [State.stand, tstu]
        exact Table.get_map _ _ _
      rw [record, stands k]; rfl
    · rw [show t.gapStand k = u.gapStand k by rw [State.gapStand, tgap]; rfl, gaps k]; rfl
    · rw [tmi, clampAbs_inside h]
    · rw [tmi, clampAbs_above h]
    · rw [tmi, clampAbs_below h]
    · rw [State.figuresChanged, h]
    · simp only [State.figuresChanged, h, if_pos ((s.carried_iff _).mpr held)]
    · simp only [State.figuresChanged, h, if_neg (mt (s.carried_iff _).mp free)]
    · rw [show t.stu.stands = u.stu.stands.map (fun r => { r with use := .active }) by rw [tstu],
        show t.gap.stands = u.gap.stands by rw [tgap], tmi]
      refine change.trans ?_
      rw [frame]

/-! ### An accepted LOAD_SCHEDULE -/

/-- R6, R105: the schedule `c` in the pending slot, before the switch test. -/
def State.armed (s : State) (c : Schedule) : State :=
  { s with
    stu := { s.stu with pending := some ⟨c, false⟩, nextSerial := s.stu.nextSerial + 1 }
    gap := { s.gap with
      figures := s.gap.figures.filter (fun f => s.stu.pending.all (fun h => f.serial != h.sched.serial)) ++ [c.figures] } }

theorem State.arm_eq (s : State) (c : Schedule) : s.arm c = ((s.armed c).switchTest,
    if (s.armed c).switchTest.stu.pending = none then 7
    else ((List.finRange 7).filter (fun k => ((s.armed c).switchTest.stand k).use == .pending)).length) := by
  have shown (u : State) : (u, if u.stu.pending.isNone then 7 else u.switchProgress) = (u, if u.stu.pending = none then 7
      else ((List.finRange 7).filter (fun k => (u.stand k).use == .pending)).length) := by
    simp only [Option.isNone_iff_eq_none]
    rfl
  cases h : s.stu.pending with
  | none =>
    have armed : s.armed c = State.addFigures { s with
        stu := { s.stu with pending := some ⟨c, false⟩, nextSerial := s.stu.nextSerial + 1 } } c := by
      simp [State.armed, State.addFigures, h]
    simp only [armed, ← shown, State.arm, h]
  | some old =>
    have armed : s.armed c = State.addFigures { s.dropFigures old.sched.serial with
        stu := { s.stu with pending := some ⟨c, false⟩, nextSerial := s.stu.nextSerial + 1 } } c := by
      simp [State.armed, State.addFigures, State.dropFigures, h]
    simp only [armed, ← shown, State.arm, h]
    rfl

/-- R3 check 1: a record without fault has a stand in its mask. -/
theorem exists_masked {words : List Word} {active : Option Word} (h : scheduleFault words active = none) :
    ∃ k, maskedAt words k = true := by
  have range : 1 ≤ (words.getD 1 0).toNat ∧ (words.getD 1 0).toNat ≤ 127 := by
    by_contra outside
    have fault := scheduleFault_coil (words := words) (active := active) (a := []) rfl (by simp) outside
    rw [h] at fault
    cases fault
  by_contra none
  have zero : words.getD 1 0 = 0 := BitVec.eq_of_getLsbD_eq fun i hi => by
    rw [show (0 : Word).getLsbD i = false from BitVec.getLsbD_zero]
    rcases lt_or_ge i 7 with h7 | h7
    · exact Bool.eq_false_iff.mpr fun hk => none ⟨⟨i, h7⟩, hk⟩
    · have small : (words.getD 1 0).toNat < 2 ^ i := lt_of_lt_of_le (by omega : _ < 2 ^ 7) (Nat.pow_le_pow_right (by omega) h7)
      exact Nat.testBit_lt_two_pow small
  rw [zero] at range
  exact absurd range.1 (by decide)

/-- R8: with the mill empty every stand is free. -/
theorem State.free_of_empty {s : State} (segs : s.trk.segs = []) (creation : s.trk.creation = none) {k : Stand}
    (bite : (s.stand k).bite = .empty) : s.free k = true :=
  (s.free_iff k).mpr ⟨bite, fun c _ => ⟨by simp [segs], by simp [creation]⟩⟩

/-- R9: with stand 1 LOADED and on no PENDING the switch test switches none. -/
theorem State.switchTest_loaded {s : State} (unused : (s.stand 0).use ≠ .pending) (loaded : (s.stand 0).bite = .loaded) :
    s.switchTest = s := by
  cases hp : s.stu.pending with
  | none => exact State.switchTest_none hp
  | some p =>
    have held : s.free 0 = false := by simp [State.free, loaded]
    rw [State.switchTest, allStands, switchThrough_cons _ _ hp, if_neg unused, held, if_neg Bool.false_ne_true]

/-- Settles O20: the schedule armed, the switch test decides, here in its two extreme cases. -/
theorem loadScheduleArmsThePendingSlot : Obligations.LoadScheduleArmsThePendingSlot := by
  intro s i args words
  dsimp only
  intro timely ht ok whole progress replace
  have accepted : exec .scheduleCopyEnd s = .next ((s.arm (readSchedule words s.stu.nextSerial)).1.complete .ok
      [natWord (s.arm (readSchedule words s.stu.nextSerial)).2]) := by
    rw [exec_scheduleCopyEnd timely ht, answerLoadSchedule_sound ok whole, if_neg ?_, if_neg ?_]
    · rfl
    · exact fun h => h.2 progress
    · rintro ⟨held, flag⟩
      rcases replace with none | set
      · rw [none] at held; cases held
      · exact absurd (set.symm.trans flag) (by decide)
  rw [State.arm_eq] at accepted
  have unused := s.switchProgress_eq_zero.mp progress
  refine ⟨accepted, fun loaded => ?_, fun idle segs creation empty => ?_⟩
  · have still : (s.armed (readSchedule words s.stu.nextSerial)).switchTest = s.armed (readSchedule words s.stu.nextSerial) :=
      State.switchTest_loaded (unused 0) loaded
    rw [still] at accepted
    have number : ((List.finRange 7).filter
        (fun k => ((s.armed (readSchedule words s.stu.nextSerial)).stand k).use == .pending)).length = 0 := progress
    rw [number] at accepted
    exact accepted
  · have test := switchTestSwitchesTheFreeStands (s.armed (readSchedule words s.stu.nextSerial))
    dsimp only at test
    obtain ⟨-, -, test⟩ := test
    have all (k : Stand) : (fun _ : Stand => true) k = true ↔ ((s.armed (readSchedule words s.stu.nextSerial)).stand k).use ≠ .pending ∧
        ∀ i ≤ k, ((s.armed (readSchedule words s.stu.nextSerial)).stand i).use ≠ .pending →
          (s.armed (readSchedule words s.stu.nextSerial)).free i = true :=
      ⟨fun _ => ⟨unused k, fun i _ _ => State.free_of_empty (s := s.armed _) segs creation (empty i)⟩, fun _ => rfl⟩
    have test := test ⟨readSchedule words s.stu.nextSerial, false⟩ (fun _ => true) rfl all
    generalize (s.armed (readSchedule words s.stu.nextSerial)).switchTest = t at test accepted
    obtain ⟨stands, gaps, -, completed, -, later, frame, -⟩ := test
    simp only [if_true] at stands gaps completed frame
    obtain ⟨inside, -⟩ := completed trivial
    obtain ⟨comp, charge⟩ := later fun x hx => by rw [show (s.armed _).comp = s.comp from rfl, idle] at hx; cases hx
    have last : ∃ k : Stand, True ∧ ((readSchedule words s.stu.nextSerial).entries.get k).isSome = true ∧
        ∀ j, k < j → (readSchedule words s.stu.nextSerial).entries.get j = none := by
      obtain ⟨k, hk⟩ := Option.isSome_iff_exists.mp (List.find?_isSome.mpr
        ((exists_masked ok).imp fun k hk => ⟨mem_standsDown k, show
          (readSchedule words s.stu.nextSerial).inService k = true by
            rw [Schedule.inService, readSchedule, placeEntries_get, if_pos hk]; rfl⟩))
      exact ⟨k, trivial, Schedule.lastStand_eq_some.mp hk⟩
    rw [if_pos last] at inside
    have count : ((List.finRange 7).filter (fun _ => true)).length = 7 := by decide
    rw [count] at charge
    have pending : t.stu.pending = none := by rw [frame]
    rw [pending, if_pos rfl] at accepted
    exact ⟨t, accepted, by rw [frame], pending, fun k => (stands k).trans rfl, fun k => (gaps k).trans rfl, inside (by simp),
      by rw [frame]; rfl, charge, by rw [frame]; rfl, by rw [frame]; rfl, by rw [frame]; rfl, by rw [frame]; rfl,
      by rw [frame]; rfl, by rw [frame]; rfl⟩

end Sys2Proof.Machine


/-! ## Detections, events and the monitor -/

namespace Sys2Proof.Machine

open Safety

/-! ### Detections -/

/-- R129 to R131, R44, R20, R81, R76: a detection with the latch clear latches. -/
theorem State.detectFrom_clear {s : State} (h : s.trp.latch = false) (t : Trp) (c : Cause) (time : Word) :
    s.detectFrom t c time = { s with
      trp := t.latched (s.firstOutOf c time)
      tripNumber := (s.detectFrom t c time).tripNumber
      cram := (s.detectFrom t c time).cram
      news := { s.news with trip := true }
      irq := (s.detectFrom t c time).irq
      irqSignals := (s.detectFrom t c time).irqSignals
      tripOut := false
      lnk := { s.lnk with runState := s.lnk.runState.afterTrip }
      stu := { s.stu with stands := s.stu.stands.map (fun r => { r with requested := .position }) }
      trk := { s.trk with windows := Table.fill 7 none, tripFlush := true } } := by
  have latched : s.detectFrom t c time = (s.setTrp (t.latched (s.firstOutOf c time))).latchEffects :=
    if_neg (by rw [h]; exact Bool.false_ne_true)
  rw [latched, s.setTrp_frame]
  rfl

/-- R132: a detection with the latch set goes into the list. -/
theorem State.detectFrom_set {s : State} (h : s.trp.latch = true) (t : Trp) (c : Cause) (time : Word) :
    s.detectFrom t c time = { s with
      trp := t.listed c time
      tripNumber := (s.detectFrom t c time).tripNumber
      cram := (s.detectFrom t c time).cram } := by
  rw [State.detectFrom_latched s t c time h]
  exact s.setTrp_frame _

@[simp] theorem Trp.listed_firstOut (t : Trp) (c : Cause) (time : Word) : (t.listed c time).firstOut = t.firstOut := by
  unfold Trp.listed
  dsimp only
  split
  · rfl
  · split <;> rfl

/-- R132: a new cause joins a list that is not full. -/
theorem Trp.listed_new {t : Trp} {c : Cause} {time : Word} (list : ∀ e ∈ t.list, e.1.same c = false)
    (first : ∀ f, t.firstOut = some f → f.cause.same c = false) (room : t.list.length < 15) :
    t.listed c time = { t with list := t.list ++ [(c, time)] } := by
  have known : ((t.firstOut.map (fun f => f.cause.same c)).getD false || t.list.any (fun e => e.1.same c)) = false := by
    rw [Bool.or_eq_false_iff, List.any_eq_false]
    refine ⟨?_, fun e he => by simp [list e he]⟩
    cases h : t.firstOut with
    | none => rfl
    | some f => exact first f h
  rw [Trp.listed]
  simp only [known, Bool.false_eq_true, if_false]
  rw [if_pos (show t.list.length < Config.listSize from room)]

/-! ### Events and counters -/

/-- R147 to R149: when an event passes a counter's filters. -/
theorem Counter.passes_iff (c : Counter) (e : Event) : c.passes e = true ↔
    c.group = e.group ∧ c.group ≠ .off ∧ c.subevents.getLsbD e.sub.bit = true ∧
      (∀ z, e.zone = some z → c.zones.getLsbD z.bit = true) ∧ (e.zone = none → c.zones ≠ 0) ∧
      (e.group = .segment ∨ ∀ k, e.stand = some k → c.stands.getLsbD k.val = true) := by
  obtain ⟨group, sub, zone, stand⟩ := e
  have where? : (match group, stand with
      | .segment, _ => true
      | _, none => true
      | _, some k => c.stands.getLsbD k.val) = true ↔
      (group = .segment ∨ ∀ k, stand = some k → c.stands.getLsbD k.val = true) := by
    cases group <;> cases stand <;> simp
  rw [Counter.passes, Bool.and_eq_true]
  refine Iff.trans (and_congr_right fun _ => where?) ?_
  cases zone <;> simp [and_assoc]

/-- R150, R151: a counter that takes an event it does not pass. -/
theorem State.countOne_blocked {e : Event} {s : State} {n : Fin 8} (h : (s.evc.counters.get n).passes e = false) (time : Word) :
    State.countOne e time s n = s := by
  simp [State.countOne, h]

/-- R150, R151: the counters with one event counted. -/
def State.counted (s : State) (n : Fin 8) : State :=
  { s with evc := { s.evc with counters := s.evc.counters.set n (s.evc.counters.get n).counted } }

/-- R150 to R153: a counter that passes an event counts it; one that overflows acts. -/
theorem State.countOne_passed {e : Event} {s : State} {n : Fin 8} (h : (s.evc.counters.get n).passes e = true) (time : Word) :
    State.countOne e time s n =
      if (s.evc.counters.get n).value = 0xFFFFFFFF then
        match (s.evc.counters.get n).action with
        | .none => s.counted n
        | .notice => (s.counted n).noteCounter
        | .trip => (s.counted n).detect (.counter n) time
      else s.counted n := by
  simp only [State.countOne, h, if_true]
  rfl

/-- Settles O43: the filters by their table, the count and the overflow by the counter's value. -/
theorem countersCountAndOverflow : Obligations.CountersCountAndOverflow := by
  intro s e time n
  dsimp only
  refine ⟨rfl, fun blocked => ?_, fun passes low => ?_, fun passes full => ?_⟩
  · exact State.countOne_blocked (Bool.eq_false_iff.mpr (mt (Counter.passes_iff _ e).mp blocked)) time
  · rw [State.countOne_passed ((Counter.passes_iff _ e).mpr passes), if_neg low]
    have : (s.evc.counters.get n).counted = { s.evc.counters.get n with value := (s.evc.counters.get n).value + 1 } := by
      rw [Counter.counted, beq_eq_false_iff_ne.mpr low, Bool.or_false]
    rw [State.counted, this]
  · have wrapped : (s.evc.counters.get n).counted = { s.evc.counters.get n with value := 0, flag := true } := by
      rw [Counter.counted, full, beq_self_eq_true, Bool.or_true]; rfl
    have passed := State.countOne_passed ((Counter.passes_iff _ e).mpr passes) time
    rw [if_pos full] at passed
    have counted : s.counted n = { s with evc := { s.evc with
        counters := s.evc.counters.set n { s.evc.counters.get n with value := 0, flag := true } } } := by
      rw [State.counted, wrapped]
    refine ⟨fun none => ?_, fun notice => ?_, fun trip => ?_⟩
    · rw [none] at passed
      exact passed.trans counted
    · rw [notice] at passed
      rw [passed, counted]; rfl
    · rw [trip] at passed
      have acts : State.countOne e time s n = (s.counted n).detectFrom s.trp (.counter n) time := passed
      rw [acts]
      refine ⟨?_, (State.detectFrom_trp _ _ _ _ rfl).1, fun set => ?_, fun clear => ?_⟩
      · cases latch : s.trp.latch with
        | true => rw [State.detectFrom_set (s := s.counted n) latch, counted]
        | false => rw [State.detectFrom_clear (s := s.counted n) latch, counted]
      · rw [State.detectFrom_set (s := s.counted n) set]; exact Trp.listed_firstOut _ _ _
      · rw [State.detectFrom_clear (s := s.counted n) clear]; rfl

/-! ### The monitor -/

/-- R66, R106: a mean is rounded to nearest. -/
theorem meanOf_bounds {sum count : Nat} (h : count ≠ 0) : ∃ m : Nat, meanOf sum count = some m ∧
    2 * ((count : Int) * m - sum).natAbs ≤ count := by
  refine ⟨(2 * sum + count) / (2 * count), if_neg h, ?_⟩
  have bounds := roundedQuotient_bounds sum (Nat.pos_of_ne_zero h)
  rw [Nat.mul_comm _ count] at bounds
  rw [← Int.natCast_mul]
  omega

theorem qualityOf_ne (em : Int) (tol : Nat) : qualityOf em tol ≠ .noReading := by
  unfold qualityOf
  split
  · decide
  · split <;> decide

/-- R107: the quality classes. -/
theorem qualityOf_iff (em : Int) (tol : Nat) : (qualityOf em tol = .inBand ↔ em.natAbs ≤ tol) ∧
    (qualityOf em tol = .thick ↔ (tol : Int) < em) ∧ (qualityOf em tol = .thin ↔ em < -(tol : Int)) := by
  unfold qualityOf
  split
  · simp only [reduceCtorEq, false_iff, true_iff]
    omega
  · split
    · simp only [reduceCtorEq, false_iff, true_iff]
      omega
    · simp only [reduceCtorEq, false_iff, true_iff]
      omega

/-- R106: no reading. -/
theorem assess_none {out : Bool} {f : Figures} {g : Segment} (h : out = true ∨ g.gaugeCount = 0) :
    assess out (some f) g = ⟨none, none, .noReading⟩ := by
  rcases h with h | h <;> cases out <;> simp_all [assess, meanOf]

/-- R106: a reading. -/
theorem assess_some {out : Bool} {f : Figures} {g : Segment} (used : out = false) {m : Nat}
    (h : meanOf g.gaugeSum g.gaugeCount = some m) :
    assess out (some f) g = ⟨some m, some ((m : Int) - f.hFin), qualityOf ((m : Int) - f.hFin) f.tol⟩ := by
  simp [assess, used, h]

/-- R110: when no condition of the monitor update fails. -/
theorem State.monitorReason_eq_none {s : State} {g : Segment} {a : Assessment} {kind : Removal} :
    s.monitorReason g a kind = .none ↔ kind ≠ .flush ∧ g.zone = .body ∧ s.gaugeOut = false ∧ a.hx ≠ none ∧
      g.degraded = false ∧ g.trip = false ∧ s.trp.latch = false ∧ s.stu.active ≠ none := by
  have flagged : (g.degraded || g.trip) = true ↔ ¬ (g.degraded = false ∧ g.trip = false) := by
    cases g.degraded <;> cases g.trip <;> decide
  unfold State.monitorReason
  simp only [flagged, Option.isNone_iff_eq_none]
  split_ifs <;> simp_all

/-- R113, R114: the gap part of the state as a removal leaves it. -/
def State.monitored (s : State) (g : Segment) (a : Assessment) (kind : Removal) (mi : Int) (applied clamped : Bool) : State :=
  { s with gap := { s.gap with
    mi := mi
    last := some ⟨g.id, g.coilId, kind, g.zone, a.quality, a.hx, a.em, applied, s.monitorReason g a kind, clamped,
      mi - s.gap.mi, mi⟩ } }

/-- R110: an update that is not made. -/
theorem State.monitor_refused {s : State} {g : Segment} {a : Assessment} {kind : Removal}
    (h : s.monitorReason g a kind ≠ .none) : s.monitor g a kind = s.monitored g a kind s.gap.mi false false := by
  unfold State.monitor
  dsimp only
  split
  case h_1 reason _ _ _ => exact absurd reason h
  case h_2 => rfl

/-- R111: an update that is made. -/
theorem State.monitor_applied {s : State} {g : Segment} {a : Assessment} {kind : Removal} {em : Int} {f : Figures}
    {h : HeldSchedule} (reason : s.monitorReason g a kind = .none) (error : a.em = some em)
    (figures : s.figuresFor g.coilId = some f) (active : s.stu.active = some h) :
    s.monitor g a kind = s.monitored g a kind (clampAbs h.sched.miMax (monitorStep s.gap.mi em f.km)) true
      (decide (clampAbs h.sched.miMax (monitorStep s.gap.mi em f.km) ≠ monitorStep s.gap.mi em f.km)) := by
  unfold State.monitor State.monitored
  simp only [reason, error, figures, active]

/-- Settles O42: by whether the segment has a reading, then by the first condition of R110 that fails. -/
theorem monitorUpdateOfARemoval : Obligations.MonitorUpdateOfARemoval := by
  intro s g kind f h figures active law
  dsimp only
  have limit : s.gap.mi.natAbs ≤ h.sched.miMax := by
    rw [MonitorLaw, active] at law; exact law
  have assessed : (assess s.gaugeOut (some f) g = ⟨none, none, .noReading⟩ ∧ (s.gaugeOut = true ∨ g.gaugeCount = 0)) ∨
      ∃ m : Nat, 2 * ((g.gaugeCount : Int) * m - g.gaugeSum).natAbs ≤ g.gaugeCount ∧ s.gaugeOut = false ∧
        g.gaugeCount ≠ 0 ∧ assess s.gaugeOut (some f) g =
          ⟨some m, some ((m : Int) - f.hFin), qualityOf ((m : Int) - f.hFin) f.tol⟩ := by
    cases out : s.gaugeOut with
    | true => exact .inl ⟨assess_none (.inl rfl), .inl rfl⟩
    | false =>
      by_cases none : g.gaugeCount = 0
      · exact .inl ⟨assess_none (.inr none), .inr none⟩
      · obtain ⟨m, mean, bounds⟩ := meanOf_bounds (sum := g.gaugeSum) none
        exact .inr ⟨m, bounds, rfl, none, assess_some rfl mean⟩
  generalize assess s.gaugeOut (some f) g = a at assessed
  have refused : s.monitorReason g a kind ≠ .none →
      (s.monitor g a kind).gap.mi = s.gap.mi ∧ ∃ l, (s.monitor g a kind).gap.last = some l ∧ l.applied = false ∧
        l.reason ≠ .none ∧ l.change = 0 := fun reason => by
    rw [State.monitor_refused reason]
    exact ⟨rfl, _, rfl, rfl, reason, Int.sub_self _⟩
  refine ⟨?_, ?_, ?_, ?_, ?_, ?_, ?_⟩
  · rcases assessed with ⟨rfl, -⟩ | ⟨m, -, -, -, rfl⟩
    · simp
    · simpa using qualityOf_ne _ _
  · rcases assessed with ⟨rfl, none⟩ | ⟨m, -, used, some, rfl⟩
    · simpa using none
    · simp [used, some]
  · intro hx
    rcases assessed with ⟨rfl, -⟩ | ⟨m, bounds, -, -, rfl⟩
    · rintro ⟨⟩
    · rintro ⟨⟩
      exact ⟨rfl, bounds, qualityOf_iff _ _⟩
  · intro applies
    refine refused fun reason => applies ?_
    obtain ⟨flush, body, used, read, degraded, trip, latch, -⟩ := State.monitorReason_eq_none.mp reason
    rcases assessed with ⟨rfl, -⟩ | ⟨m, -, -, some, -⟩
    · exact absurd rfl read
    · exact ⟨flush, body, used, some, degraded, trip, latch⟩
  · rintro ⟨flush, body, used, count, degraded, trip, latch⟩
    rcases assessed with ⟨-, out | zero⟩ | ⟨m, -, -, -, rfl⟩
    · exact absurd (used.symm.trans out) (by decide)
    · exact absurd zero count
    · have reason : s.monitorReason g ⟨some m, some ((m : Int) - f.hFin), qualityOf ((m : Int) - f.hFin) f.tol⟩ kind =
          .none := State.monitorReason_eq_none.mpr ⟨flush, body, used, Option.some_ne_none _, degraded, trip, latch,
        (by rw [active]; exact Option.some_ne_none h)⟩
      rw [State.monitor_applied reason rfl figures active]
      refine ⟨_, _, _, rfl, rfl, fun inside => clampAbs_inside inside, fun above => clampAbs_above above,
        fun below => clampAbs_below below, rfl, rfl, reason, rfl, rfl, rfl, decide_eq_true_iff⟩
  · by_cases reason : s.monitorReason g a kind = .none
    · obtain ⟨-, -, -, read, -⟩ := State.monitorReason_eq_none.mp reason
      rcases assessed with ⟨rfl, -⟩ | ⟨m, -, -, -, rfl⟩
      · exact absurd rfl read
      · rw [State.monitor_applied reason rfl figures active]; rfl
    · rw [State.monitor_refused reason]; rfl
  · by_cases reason : s.monitorReason g a kind = .none
    · obtain ⟨-, -, -, read, -⟩ := State.monitorReason_eq_none.mp reason
      rcases assessed with ⟨rfl, -⟩ | ⟨m, -, -, -, rfl⟩
      · exact absurd rfl read
      · rw [State.monitor_applied reason rfl figures active]; exact clampAbs_le _ _
    · rw [(refused reason).1]; exact limit

end Sys2Proof.Machine


/-! ## The sequence checks -/

namespace Sys2Proof.Machine

open Safety

/-- R129, R124: what a cause that latches leaves of TRP. -/
theorem State.detect_latched {s : State} (h : s.trp.latch = false) (c : Cause) (time : Word) :
    (s.detect c time).trp = s.trp.latched (s.firstOutOf c time) := by
  rw [State.detect, State.detectFrom_clear h]

/-- R124: the arm flag is raised while the latch is clear. -/
theorem State.armChecks_set {s : State} (h : s.trp.latch = true) : s.armChecks = s := if_pos h

theorem State.armChecks_clear {s : State} (h : s.trp.latch = false) :
    s.armChecks = s.setTrp { s.trp with armed := true } := if_neg (by rw [h]; exact Bool.false_ne_true)

/-- R125, R128: a head-on with the checks not armed. -/
theorem State.seqHeadOn_disarmed {s : State} (h : s.trp.armed = false) (c : Schedule) (windows : Table 7 (Option Window))
    (j : Stand) : s.seqHeadOn c windows j = s := if_pos (by rw [h]; rfl)

/-- R125: the stands whose open head window waits for stand j. -/
theorem windowTowards_iff {windows : Table 7 (Option Window)} {j : Stand} :
    allStands.any (fun k => (windows.get k).any (fun w => w.target == j)) = true ↔
      ∃ k w, windows.get k = some w ∧ w.target = j := by
  rw [List.any_eq_true]
  refine exists_congr fun k => ⟨fun ⟨_, h⟩ => ?_, fun ⟨w, open', target⟩ => ⟨mem_allStands k, ?_⟩⟩
  · simpa [Option.any_eq_true] using h
  · rw [open']; exact beq_iff_eq.mpr target

/-- R125: an armed head-on that no open window expects. -/
theorem State.seqHeadOn_unexpected {s : State} {c : Schedule} {windows : Table 7 (Option Window)} {j : Stand}
    (armed : s.trp.armed = true) (latch : s.trp.latch = false) (h : ¬ ∃ k w, windows.get k = some w ∧ w.target = j) :
    s.seqHeadOn c windows j = s.detect (.loadUnexpected j) s.time := by
  have none : allStands.any (fun k => (windows.get k).any (fun w => w.target == j)) = false :=
    Bool.eq_false_iff.mpr (mt windowTowards_iff.mp h)
  have disarmed : (s.detect (.loadUnexpected j) s.time).trp.armed = false := by
    rw [State.detect_latched latch]; rfl
  simp only [State.seqHeadOn, armed, none, disarmed, Bool.not_true, Bool.not_false, Bool.false_eq_true, if_false, if_true]

/-- R127: an armed head-on that an open window expects. -/
theorem State.seqHeadOn_expected {s : State} {c : Schedule} {windows : Table 7 (Option Window)} {j k : Stand}
    (armed : s.trp.armed = true) (h : ∃ k w, windows.get k = some w ∧ w.target = j) (prev : c.prevOf j = some k) :
    s.seqHeadOn c windows j =
      if (s.stand k).bite == .loaded then s.setTrp { s.trp with feed := s.trp.feed.set j (some k) } else s := by
  simp only [State.seqHeadOn, armed, windowTowards_iff.mpr h, prev, Bool.not_true, Bool.false_eq_true, if_false, if_true]

/-- R126: the feed records without those of and towards stand j. -/
def feedWithout (feed : Table 7 (Option Stand)) (j : Stand) : Table 7 (Option Stand) :=
  (feed.set j none).map (fun f => if f = some j then none else f)

theorem feedWithout_get (feed : Table 7 (Option Stand)) (j k : Stand) :
    (feedWithout feed j).get k = if k = j ∨ feed.get k = some j then none else feed.get k := by
  rw [feedWithout, Table.get_map]
  by_cases same : k = j
  · subst same; simp
  · rw [Table.get_set_other _ _ _ _ (Ne.symm same)]; simp [same]

/-- R126: a tail-off that no feed record awaits. -/
theorem State.seqTailOff_unfed {s : State} {j : Stand} (h : s.trp.armed = false ∨ s.trp.feed.get j = none) :
    s.seqTailOff j = s.setTrp { s.trp with feed := feedWithout s.trp.feed j } := by
  have blocked : (s.trp.armed && (s.trp.feed.get j).isSome) = false := by
    rcases h with h | h <;> simp [h]
  simp only [State.seqTailOff, blocked, Bool.false_eq_true, if_false]
  rfl

/-- R126: a tail-off with a feed recorded. -/
theorem State.seqTailOff_fed {s : State} {j : Stand} (armed : s.trp.armed = true) (fed : s.trp.feed.get j ≠ none) :
    s.seqTailOff j = (s.detect (.unloadOrder j) s.time).setTrp
      { (s.detect (.unloadOrder j) s.time).trp with
        feed := feedWithout (s.detect (.unloadOrder j) s.time).trp.feed j } := by
  have fires : (s.trp.armed && (s.trp.feed.get j).isSome) = true := by
    rw [armed, Bool.true_and, Option.isSome_iff_ne_none]; exact fed
  simp only [State.seqTailOff, fires, if_true]
  rfl

/-- R124 to R127: which check a bite change calls for. -/
theorem State.sequenceCheck_none {sn : Table 7 StandSnap} {windows : Table 7 (Option Window)} {s : State} {j : Stand}
    (h : (sn.get j).change = .none) : State.sequenceCheck sn windows s j = s := by
  simp only [State.sequenceCheck, h]

theorem State.sequenceCheck_tailOff {sn : Table 7 StandSnap} {windows : Table 7 (Option Window)} {s : State} {j : Stand}
    (h : (sn.get j).change = .tailOff) : State.sequenceCheck sn windows s j = s.seqTailOff j := by
  simp only [State.sequenceCheck, h]

theorem State.sequenceCheck_entry {sn : Table 7 StandSnap} {windows : Table 7 (Option Window)} {s : State} {j : Stand}
    (h : (sn.get j).change = .headOn) (entry : (sn.get j).entryHeadOn = true) :
    State.sequenceCheck sn windows s j = s.armChecks := by
  simp only [State.sequenceCheck, h, entry, if_true]

theorem State.sequenceCheck_later {sn : Table 7 StandSnap} {windows : Table 7 (Option Window)} {s : State} {j : Stand}
    {c : Schedule} {e : StandEntry} (h : (sn.get j).change = .headOn) (later : (sn.get j).entryHeadOn = false)
    (sched : (sn.get j).sched = some c) (entry : (sn.get j).entry = some e) :
    State.sequenceCheck sn windows s j = s.seqHeadOn c windows j := by
  simp only [State.sequenceCheck, h, later, sched, entry, Bool.false_eq_true, if_false]

theorem State.sequenceCheck_quiet {sn : Table 7 StandSnap} {windows : Table 7 (Option Window)} {s : State} {j : Stand}
    (h : (sn.get j).change = .headOn) (later : (sn.get j).entryHeadOn = false)
    (quiet : (sn.get j).sched = none ∨ (sn.get j).entry = none) : State.sequenceCheck sn windows s j = s := by
  simp only [State.sequenceCheck, h, later, Bool.false_eq_true, if_false]
  split
  · next sched entry => exact absurd quiet (by simp [sched, entry])
  · rfl

/-- Settles O50: by the bite change, then by the branches of R124 to R128. -/
theorem sequenceChecksFollowTheBites : Obligations.SequenceChecksFollowTheBites := by
  intro s sn windows j
  dsimp only
  refine ⟨fun none => State.sequenceCheck_none none, fun headOn entry => ?_, fun headOn later => ⟨fun quiet => ?_, ?_⟩,
    fun tailOff => ⟨fun armed clear fed => ?_, fun unfed => ?_⟩⟩
  · have arms := State.sequenceCheck_entry (windows := windows) (s := s) headOn entry
    rw [arms]
    refine ⟨State.armChecks_set, fun clear => ?_⟩
    rw [State.armChecks_clear clear]
    exact ⟨by rw [State.setTrp_trp]; exact s.setTrp_frame _, s.setTrp_trp _⟩
  · cases sched : (sn.get j).sched with
    | none => exact State.sequenceCheck_quiet headOn later (.inl sched)
    | some c =>
      cases entry : (sn.get j).entry with
      | none => exact State.sequenceCheck_quiet headOn later (.inr entry)
      | some e =>
        rw [State.sequenceCheck_later headOn later sched entry]
        exact State.seqHeadOn_disarmed (by simpa [sched, entry] using quiet) _ _ _
  · intro c e sched entry armed clear
    rw [State.sequenceCheck_later headOn later sched entry]
    refine ⟨fun unexpected => ?_, fun expected => ⟨fun k prev loaded => ?_, fun k prev empty => ?_⟩⟩
    · rw [State.seqHeadOn_unexpected armed clear unexpected, State.detect_latched clear]
      exact ⟨rfl, rfl, fun k => Table.get_fill _ _, rfl⟩
    · rw [State.seqHeadOn_expected armed expected prev, if_pos (by rw [loaded]; rfl)]
      exact ⟨by rw [State.setTrp_trp]; exact s.setTrp_frame _, s.setTrp_trp _⟩
    · rw [State.seqHeadOn_expected armed expected prev, if_neg (by rw [empty]; decide)]
  · rw [State.sequenceCheck_tailOff tailOff, State.seqTailOff_fed armed fed, State.setTrp_trp, State.detect_latched clear]
    refine ⟨rfl, rfl, fun k => ?_, rfl⟩
    dsimp only
    rw [feedWithout_get, show (s.trp.latched _).feed = Table.fill 7 none from rfl, Table.get_fill, ite_self]
  · rw [State.sequenceCheck_tailOff tailOff, State.seqTailOff_unfed unfed, State.setTrp_trp]
    exact ⟨s.setTrp_frame _, rfl, feedWithout_get _ _⟩

end Sys2Proof.Machine


/-! ## Head windows -/

namespace Sys2Proof.Machine

open Safety

/-- A fold over the stands in which one stand alone acts. -/
theorem foldl_allStands_only {f : State → Stand → State} {s : State} {k : Stand} (before : ∀ i, i ≠ k → f s i = s)
    (after : ∀ i, i ≠ k → f (f s k) i = f s k) : allStands.foldl f s = f s k := by
  have idle : ∀ (l : List Stand) (t : State), (∀ i ∈ l, f t i = t) → l.foldl f t = t := by
    intro l t h
    induction l with
    | nil => rfl
    | cons i l ih => rw [List.foldl_cons, h i List.mem_cons_self, ih fun x hx => h x (List.mem_cons_of_mem _ hx)]
  obtain ⟨l, r, split⟩ := List.mem_iff_append.mp (mem_allStands k)
  have nodup := allStands_sorted
  rw [split, List.pairwise_append, List.pairwise_cons] at nodup
  obtain ⟨-, ⟨right, -⟩, left⟩ := nodup
  rw [split, List.foldl_append, List.foldl_cons,
    idle l s fun i hi => before i (left i hi k List.mem_cons_self).ne,
    idle r (f s k) fun i hi => after i (right i hi).ne']

/-- R79, R80: the state with the head window of stand k closed. -/
def State.windowClosed (s : State) (k : Stand) : State :=
  { s with trk := { s.trk with windows := s.trk.windows.set k none } }

/-- R79, R129, R132: what HEAD_LOST leaves of windows and TRP. -/
theorem State.headLost_leaves (s : State) (k : Stand) :
    ((s.windowClosed k).detect (.headLost k) s.time).trk.windows.get k = none ∧
    ((s.windowClosed k).detect (.headLost k) s.time).trp.latch = true ∧
    (s.trp.latch = false → (∀ j, ((s.windowClosed k).detect (.headLost k) s.time).trk.windows.get j = none) ∧
      ((s.windowClosed k).detect (.headLost k) s.time).trp.firstOut =
        some ⟨.headLost k, s.time, s.lnk.cycleNumber, s.lnk.runState, some (s.figuresOf k)⟩) ∧
    (s.trp.latch = true → ((s.windowClosed k).detect (.headLost k) s.time).trk = (s.windowClosed k).trk ∧
      ((s.windowClosed k).detect (.headLost k) s.time).trp.firstOut = s.trp.firstOut) := by
  rw [State.detect]
  cases latch : s.trp.latch with
  | false =>
    rw [State.detectFrom_clear (s := s.windowClosed k) latch]
    exact ⟨Table.get_fill _ _, rfl, fun _ => ⟨fun _ => Table.get_fill _ _, rfl⟩, fun h => absurd h (by decide)⟩
  | true =>
    rw [State.detectFrom_set (s := s.windowClosed k) latch]
    exact ⟨Table.get_set_same _ _ _, (Trp.listed_latch _ _ _).trans latch, fun h => absurd h (by decide),
      fun _ => ⟨rfl, Trp.listed_firstOut _ _ _⟩⟩

/-- R81: an event leaves the head windows, or closes them all. -/
theorem State.raise_windows (s : State) (e : Event) (time : Word) :
    (s.raise e time).trk.windows = s.trk.windows ∨ (s.raise e time).trk.windows = Table.fill 7 none := by
  have step (s : State) (n : Fin 8) : (State.countOne e time s n).trk.windows = s.trk.windows ∨
      (State.countOne e time s n).trk.windows = Table.fill 7 none := by
    cases passes : (s.evc.counters.get n).passes e with
    | false => exact .inl (by rw [State.countOne_blocked passes])
    | true =>
      rw [State.countOne_passed passes]
      split
      · split
        · exact .inl rfl
        · exact .inl rfl
        · cases latch : s.trp.latch with
          | false => exact .inr (by rw [State.detect, State.detectFrom_clear (s := s.counted n) latch])
          | true => exact .inl (by rw [State.detect, State.detectFrom_set (s := s.counted n) latch]; rfl)
      · exact .inl rfl
  have fold (ns : List (Fin 8)) : ∀ s : State, (ns.foldl (State.countOne e time) s).trk.windows = s.trk.windows ∨
      (ns.foldl (State.countOne e time) s).trk.windows = Table.fill 7 none := by
    induction ns with
    | nil => exact fun s => .inl rfl
    | cons n ns ih =>
      intro s
      rcases ih (State.countOne e time s n) with h | h
      · rcases step s n with h' | h'
        · exact .inl (h.trans h')
        · exact .inr (h.trans h')
      · exact .inr h
  unfold State.raise
  exact fold allCounters s

/-- R80: the head-on of stand j at stand k. -/
def State.closeOne (j : Stand) (s : State) (k : Stand) : State :=
  match s.trk.windows.get k with
  | none => s
  | some w =>
    if w.target = j then
      if w.travel * 256 < w.span * 1000 * (256 - w.win) then
        (s.windowClosed k).raise ⟨.track, .earlyHead, none, some k⟩ s.time
      else s.windowClosed k
    else s

theorem State.closeInto_eq (s : State) (j : Stand) : s.closeInto j = allStands.foldl (State.closeOne j) s := by
  unfold State.closeInto
  congr 1
  funext s k
  cases window : s.trk.windows.get k with
  | none => simp only [State.closeOne, window]
  | some w => simp only [State.closeOne, window, decide_eq_true_eq]; rfl

/-- R80: a stand with no window towards j. -/
theorem State.closeOne_other {s : State} {j k : Stand}
    (h : (s.trk.windows.get k).any (fun w => w.target == j) = false) : State.closeOne j s k = s := by
  unfold State.closeOne
  split
  · rfl
  · next w window => rw [window] at h; exact if_neg (by simpa using h)

theorem State.closeOne_towards {s : State} {k : Stand} {w : Window} (h : s.trk.windows.get k = some w) :
    State.closeOne w.target s k =
      if w.travel * 256 < w.span * 1000 * (256 - w.win) then
        (s.windowClosed k).raise ⟨.track, .earlyHead, none, some k⟩ s.time
      else s.windowClosed k := by
  simp only [State.closeOne, h, if_true]

/-- R80: closing the window of the one stand that has one towards its target. -/
theorem State.closeInto_only {s : State} {k : Stand} {w : Window} (h : s.trk.windows.get k = some w)
    (only : ∀ i, i ≠ k → (s.trk.windows.get i).any (fun x => x.target == w.target) = false) :
    s.closeInto w.target = State.closeOne w.target s k := by
  rw [State.closeInto_eq]
  refine foldl_allStands_only (fun i hi => State.closeOne_other (only i hi)) fun i hi => State.closeOne_other ?_
  have kept : (s.windowClosed k).trk.windows.get i = s.trk.windows.get i := Table.get_set_other _ _ _ _ (Ne.symm hi)
  rw [State.closeOne_towards h]
  split
  · rcases (s.windowClosed k).raise_windows ⟨.track, .earlyHead, none, some k⟩ s.time with same | all
    · rw [same, kept]; exact only i hi
    · rw [all, Table.get_fill]; rfl
  · rw [kept]; exact only i hi

/-- R80: what a head-on leaves where no counter counts TRACK events, stand by stand of a list. -/
structure WindowsClosed (j : Stand) (l : List Stand) (s t : State) : Prop where
  frame : t = { s with trk := { s.trk with windows := t.trk.windows } }
  windows : ∀ i, t.trk.windows.get i =
    if i ∈ l ∧ (s.trk.windows.get i).any (fun w => w.target == j) = true then none else s.trk.windows.get i

theorem State.closeOne_silent {s : State} (silent : ∀ n, (s.evc.counters.get n).group ≠ .track) (j k : Stand) :
    WindowsClosed j [k] s (State.closeOne j s k) := by
  have quiet (e : Event) (h : e.group = .track) (time : Word) : (s.windowClosed k).raise e time = s.windowClosed k :=
    State.raise_none _ _ _ fun n => Bool.eq_false_iff.mpr fun passes =>
      silent n (((Counter.passes_iff _ e).mp passes).1.trans h)
  cases towards : (s.trk.windows.get k).any (fun w => w.target == j) with
  | false =>
    rw [State.closeOne_other towards]
    refine ⟨rfl, fun i => ?_⟩
    rw [if_neg]
    rintro ⟨mem, any⟩
    rw [List.mem_singleton.mp mem, towards] at any
    exact Bool.false_ne_true any
  | true =>
    obtain ⟨w, window, target⟩ := Option.any_eq_true _ _ |>.mp towards
    obtain rfl := beq_iff_eq.mp target
    have closed : State.closeOne w.target s k = s.windowClosed k := by
      rw [State.closeOne_towards window, quiet _ rfl, ite_self]
    rw [closed]
    refine ⟨rfl, fun i => ?_⟩
    show (s.trk.windows.set k none).get i = _
    by_cases same : i = k
    · subst same
      rw [Table.get_set_same, if_pos ⟨List.mem_singleton.mpr rfl, towards⟩]
    · rw [Table.get_set_other _ _ _ _ (Ne.symm same), if_neg]
      exact fun h => same (List.mem_singleton.mp h.1)

theorem WindowsClosed.fold {j : Stand} (l : List Stand) : ∀ {s : State}, (∀ n, (s.evc.counters.get n).group ≠ .track) →
    WindowsClosed j l s (l.foldl (State.closeOne j) s) := by
  induction l with
  | nil => exact fun _ => ⟨rfl, fun i => by rw [if_neg (fun h => List.not_mem_nil h.1)]; rfl⟩
  | cons k l ih =>
    intro s silent
    have one := State.closeOne_silent silent j k
    rw [List.foldl_cons]
    generalize State.closeOne j s k = u at one
    obtain ⟨frame, windows⟩ := one
    have rest := ih (s := u) (by rw [frame]; exact silent)
    refine ⟨by rw [rest.frame, frame], fun i => ?_⟩
    rw [rest.windows, windows]
    by_cases towards : (s.trk.windows.get i).any (fun w => w.target == j) = true
    · by_cases same : i = k
      · subst same; simp [towards]
      · simp [same, towards]
    · simp [towards]

/-- Settles O49: a window at a time; HEAD_LOST by the latch. -/
theorem headWindowsOpenAndClose : Obligations.HeadWindowsOpenAndClose := by
  intro s k
  dsimp only
  refine ⟨fun c e => ⟨fun none => ?_, fun j next armed => ?_⟩, fun j silent => ?_, fun none => ⟨?_, fun sn => ?_⟩,
    fun w window only => ?_⟩
  · unfold State.openWindow
    rcases none with none | disarmed
    · rw [none]
    · split <;> simp [disarmed]
  · simp only [State.openWindow, next, armed, if_true]; rfl
  · rw [State.closeInto_eq]
    obtain ⟨frame, windows⟩ := WindowsClosed.fold (j := j) allStands silent
    exact ⟨frame, fun i => by simpa [mem_allStands] using windows i⟩
  · simp [State.loseHead, none]
  · simp [State.advanceWindow, none]
  · have closes := State.closeInto_only window only
    rw [State.closeOne_towards window] at closes
    refine ⟨fun early => closes.trans (if_pos early), fun late => closes.trans (if_neg (Nat.not_lt.mpr late)), ?_,
      fun sn => ⟨fun empty beyond => ?_, fun inside => ?_⟩⟩
    · have lost : s.loseHead k = (s.windowClosed k).detect (.headLost k) s.time := by
        rw [State.loseHead, window]; rfl
      rw [lost]
      exact s.headLost_leaves k
    · have lost : State.advanceWindow sn s k = (s.windowClosed k).detect (.headLost k) s.time := by
        simp only [State.advanceWindow, window]
        exact if_pos ⟨empty, beyond⟩
      rw [lost]
      exact s.headLost_leaves k
    · simp only [State.advanceWindow, window]
      refine if_neg ?_
      rintro ⟨empty, beyond⟩
      rcases inside with loaded | inside
      · exact absurd (loaded.symm.trans empty) (by decide)
      · exact absurd beyond (Nat.not_lt.mpr inside)

end Sys2Proof.Machine


/-! # What a removal, a flush and the tracking of a computation can change

Detections, events, removals and the work of TRK are long sequences of a few kinds of change. `Move` lists the kinds, on whole
states; what all of them leave alone is then shown once, move by move. -/

namespace Sys2Proof.Machine

open Safety

/-! ### Moves -/

/-- A change that an event, a removal, a flush or the tracking of a computation makes; `G` holds of the groups of the events
raised. -/
inductive Move (G : EventGroup → Prop) : State → State → Prop
  | detect (s : State) (c : Cause) (time : Word) : Move G s (s.detect c time)
  | count (s : State) (n : Fin 8) (h : G (s.evc.counters.get n).group) : Move G s (s.counted n)
  | coil (s : State) (id : Word) (h : G .track) : Move G s (s.coilCreated id)
  | news (s : State) (counter page coil : Bool) :
      Move G s (s.withNews { s.news with counter := counter, page := page, coil := coil })
  | report (s : State) (m : Memory) (r : Rpt) (h : ∀ a, a < 0x10000 → m.read a = s.cram.read a) :
      Move G s { s with cram := m, rpt := r }
  | monitor (s : State) (mi : Int) (figures : List Figures) (last : Option LastAssessment) :
      Move G s { s with gap := { s.gap with mi := mi, figures := figures, last := last } }
  | switch (s : State) (p : HeldSchedule) (k : Stand) (h : s.stu.pending = some p) (unused : (s.stand k).use ≠ .pending) :
      Move G s (s.switchOne p k)
  | change (s : State) (p : HeldSchedule) (h : s.stu.pending = some p) :
      Move G s { s with stu := { s.stu with
        active := some p, pending := none, stands := s.stu.stands.map (fun r => { r with use := .active }) } }
  | flush (s : State) (state : TrackState) (segs : List Segment) (creation : Option Creation) (q : Table 7 Nat)
      (qGauge : Nat) (tripFlush : Bool) :
      Move G s { s with trk := { s.trk with
        state := state, segs := segs, creation := creation, q := q, qGauge := qGauge, tripFlush := tripFlush } }
  | track (s : State) (t : Trk) (h : G .track) : Move G s { s with trk := t }
  | cross (s : State) (n : Nat) : Move G s (s.chargeCrossings n)

/-- A sequence of moves. -/
abbrev Moves (G : EventGroup → Prop) : State → State → Prop := Relation.ReflTransGen (Move G)

/-- R76: a flush raises SEGMENT events alone. -/
def ofFlush (g : EventGroup) : Prop := g = .segment

/-- R65: the tracking of a computation raises SEGMENT and TRACK events. -/
def ofTracking (g : EventGroup) : Prop := g = .segment ∨ g = .track

/-- Any event. -/
def ofAny (_ : EventGroup) : Prop := True

section
variable {G H : EventGroup → Prop} {s t u : State}

theorem Move.one (h : Move G s t) : Moves G s t := .single h

theorem Moves.foldl {α : Type} {f : State → α → State} (h : ∀ (s : State) a, Moves G s (f s a)) (l : List α) (s : State) :
    Moves G s (l.foldl f s) := by
  induction l generalizing s with
  | nil => exact .refl
  | cons a l ih => exact (h s a).trans (ih _)

/-! ### Events -/

theorem State.countOne_moves (e : Event) (he : G e.group) (time : Word) (s : State) (n : Fin 8) :
    Moves G s (State.countOne e time s n) := by
  cases passes : (s.evc.counters.get n).passes e with
  | false => rw [State.countOne_blocked passes]
  | true =>
    have group : (s.evc.counters.get n).group = e.group := ((Counter.passes_iff _ e).mp passes).1
    have counted : Moves G s (s.counted n) := (Move.count s n (group ▸ he)).one
    rw [State.countOne_passed passes]
    split
    · split
      · exact counted
      · exact counted.tail (Move.news _ true _ _)
      · exact counted.tail (Move.detect _ _ _)
    · exact counted

theorem State.raise_moves (s : State) (e : Event) (he : G e.group) (time : Word) : Moves G s (s.raise e time) :=
  Moves.foldl (State.countOne_moves e he time) _ s

/-! ### Removals -/

theorem Memory.read_writeWords_page (m : Memory) (p : Fin 16) (ws : List Word) {i a : Nat} (h : a < 0x10000) :
    (m.writeWords (pageBase p + i) ws).read a = m.read a :=
  Memory.read_write_outside _ _ _ _ (.inl (by simp only [pageBase]; omega))

theorem State.search_moves (s : State) : Moves G s s.search := by
  unfold State.search
  split
  · exact .refl
  · exact (Move.report s _ _ fun a h => Memory.read_writeWords_page _ _ _ (i := 0) h).one

theorem State.closeCurrent_moves (s : State) : Moves G s s.closeCurrent :=
  ((Move.report s (s.putWord (pageBase s.rpt.current) pageFull).cram s.rpt fun a h =>
    Memory.read_write_outside _ _ _ _ (.inl (by simp only [pageBase]; omega))).one.tail
    (Move.news _ _ true _)).trans (State.search_moves _)

theorem State.writeReport_moves (s : State) (g : Segment) (a : Assessment) (time : Word) :
    Moves G s (s.writeReport g a time) := by
  rw [State.writeReport_eq]
  refine (Move.report s _ _ fun a h => Memory.reported_read _ _ _ _ _ (reportWords_length _ _ _) ?_ (fun _ => ?_) ?_).one <;>
    · simp only [pageBase]; omega

theorem State.report_moves (s : State) (g : Segment) (a : Assessment) (e : Bool) (time : Word) :
    Moves G s (s.report g a e time) := by
  unfold State.report
  extract_lets found written
  have searched : Moves G s found := by
    unfold found
    split
    · exact .refl
    · exact s.search_moves
  refine searched.trans ?_
  split
  · refine (found.writeReport_moves g a time).trans ?_
    split
    · exact State.closeCurrent_moves _
    · exact .refl
  · exact (Move.report _ _ _ fun _ _ => rfl).one

theorem State.monitor_moves (s : State) (g : Segment) (a : Assessment) (kind : Removal) : Moves G s (s.monitor g a kind) := by
  unfold State.monitor
  dsimp only
  split <;> exact (Move.monitor s _ _ _).one

theorem State.dropFigures_moves (s : State) (serial : Nat) : Moves G s (s.dropFigures serial) :=
  (Move.monitor s s.gap.mi _ s.gap.last).one

theorem State.dropIfLast_moves (s : State) (serial : Nat) : Moves G s (s.dropIfLast serial) := by
  unfold State.dropIfLast
  split
  · exact .refl
  · exact s.dropFigures_moves serial

theorem State.completeChange_moves {p : HeldSchedule} (h : s.stu.pending = some p) : Moves G s (s.completeChange p) := by
  unfold State.completeChange
  refine Relation.ReflTransGen.tail ?_ (Move.news _ _ _ true)
  have change := (Move.change (G := G) s p h).one.tail (Move.monitor _ (clampAbs p.sched.miMax s.gap.mi) s.gap.figures s.gap.last)
  cases s.stu.active with
  | none => exact change
  | some o =>
    dsimp only
    split
    · exact change
    · exact change.trans (State.dropFigures_moves _ _)

theorem switchThrough_moves (ks : List Stand) (s : State) : Moves G s (switchThrough ks s) := by
  induction ks generalizing s with
  | nil => exact .refl
  | cons k ks ih =>
    unfold switchThrough
    split
    · exact .refl
    · next p hp =>
      split
      · exact ih s
      · next unused =>
        split
        · refine Relation.ReflTransGen.trans ?_ (ih _)
          have switched := (Move.switch (G := G) s p k hp unused).one
          rw [State.switchStand_eq]
          split
          · exact switched.trans (State.completeChange_moves (by rw [State.switchOne_eq]; exact hp))
          · exact switched
        · exact .refl

theorem State.switchTest_moves (s : State) : Moves G s s.switchTest := switchThrough_moves _ _

theorem State.idleIfEmpty_moves (s : State) : Moves G s s.idleIfEmpty := by
  unfold State.idleIfEmpty
  split
  · exact (Move.flush s .idle _ _ _ _ _).one
  · exact .refl

theorem State.removeOldest_moves (hs : G .segment) (s : State) (kind : Removal) (trip : Bool) (time : Word) :
    Moves G s (s.removeOldest kind trip time) := by
  unfold State.removeOldest
  split
  · exact .refl
  · next g rest _ =>
    exact (((((((Move.flush s _ rest _ _ _ _).one.trans (State.monitor_moves _ _ _ _)).trans
      (State.raise_moves _ _ hs _)).trans (State.report_moves _ _ _ _ _)).trans (State.dropIfLast_moves _ _)).trans
      (State.switchTest_moves _)).trans (State.idleIfEmpty_moves _))

theorem State.removeMany_moves (hs : G .segment) (kind : Removal) (trip : Bool) (time : Word) (n : Nat) (s : State) :
    Moves G s (State.removeMany kind trip time n s) := by
  induction n generalizing s with
  | zero => exact .refl
  | succ n ih => exact (s.removeOldest_moves hs kind trip time).trans (ih _)

/-! ### The flush -/

theorem State.clearTracking_moves (s : State) : Moves G s s.clearTracking :=
  (Move.flush s s.trk.state s.trk.segs none (Table.fill 7 0) 0 s.trk.tripFlush).one

theorem State.enterLost_moves (hs : G .segment) (s : State) (trip : Bool) (time : Word) :
    Moves G s (s.enterLost trip time) := by
  unfold State.enterLost
  split
  · exact .refl
  · have enters : Moves G s { s with trk := { s.trk with state := .lost } } := (Move.flush s .lost _ _ _ _ _).one
    have emptied := (enters.trans (State.removeMany_moves hs .flush trip time s.trk.segs.length _)).trans
      (State.clearTracking_moves _)
    dsimp only
    split
    · exact emptied
    · exact emptied.trans (State.switchTest_moves _)

theorem State.tripFlushNow_moves (hs : G .segment) (s : State) (time : Word) : Moves G s (s.tripFlushNow time) := by
  unfold State.tripFlushNow
  split
  · exact (s.enterLost_moves hs true time).trans (Move.flush _ _ _ _ _ _ false).one
  · exact .refl

theorem State.settleTrip_moves (hs : G .segment) (s : State) : Moves G s s.settleTrip := by
  unfold State.settleTrip
  split
  · exact .refl
  · exact s.tripFlushNow_moves hs _

theorem State.removeCrossed_moves (hs : G .segment) (n : Nat) (s : State) : Moves G s (State.removeCrossed n s) := by
  induction n generalizing s with
  | zero => exact .refl
  | succ n ih =>
    unfold State.removeCrossed
    split
    · exact .refl
    · split
      · exact ((Move.cross s 1).one.trans (State.removeOldest_moves hs _ _ _ _)).trans (ih _)
      · exact .refl

/-! ### Tracking -/

variable (hs : G .segment) (ht : G .track)
include ht

theorem State.withTrk_moves (s : State) (f : Trk → Trk) : Moves G s (s.withTrk f) := (Move.track s _ ht).one

theorem State.setQ_moves (s : State) (k : Stand) (v : Nat) : Moves G s (s.setQ k v) := s.withTrk_moves ht _

theorem State.degrade_moves (s : State) : Moves G s s.degrade := by
  unfold State.degrade
  split
  · exact s.withTrk_moves ht _
  · exact .refl

theorem State.slip_moves (s : State) (stand : Option Stand) (zone : Option Zone) : Moves G s (s.slip stand zone) :=
  (s.raise_moves _ ht _).trans (State.degrade_moves ht _)

theorem State.slipIf_moves (s : State) (b : Bool) (stand : Option Stand) (zone : Option Zone) :
    Moves G s (if b then s.slip stand zone else s) := by
  split
  · exact s.slip_moves ht stand zone
  · exact .refl

theorem State.closeInto_moves (s : State) (j : Stand) : Moves G s (s.closeInto j) := by
  rw [State.closeInto_eq]
  refine Moves.foldl (fun s k => ?_) _ _
  have closed : Moves G s (s.windowClosed k) := (Move.track s _ ht).one
  unfold State.closeOne
  split
  · exact .refl
  · split
    · split
      · exact closed.trans (State.raise_moves _ _ ht _)
      · exact closed
    · exact .refl

theorem State.loseHead_moves (s : State) (k : Stand) : Moves G s (s.loseHead k) := by
  unfold State.loseHead
  split
  · exact (s.withTrk_moves ht _).tail (Move.detect _ _ _)
  · exact .refl

theorem State.forceCross_moves (s : State) (c : Schedule) (k : Stand) : Moves G s (s.forceCross c k) :=
  (((s.withTrk_moves ht _).tail (Move.cross _ _)).trans
    (Moves.foldl (fun s (g : Segment) => s.slip_moves ht (some k) (some g.zone)) _ _)).trans (State.setQ_moves ht _ k 0)

theorem State.advanceWindow_moves (sn : Table 7 StandSnap) (s : State) (k : Stand) :
    Moves G s (State.advanceWindow sn s k) := by
  unfold State.advanceWindow
  split
  · exact .refl
  · dsimp only
    split
    · exact (s.withTrk_moves ht _).tail (Move.detect _ _ _)
    · exact s.withTrk_moves ht _

theorem State.startBar_moves (s : State) (c : Schedule) (k : Stand) (reuse : Bool) : Moves G s (s.startBar c k reuse) := by
  unfold State.startBar
  extract_lets begun
  have begins : Moves G s begun := by
    unfold begun
    split
    · exact .refl
    · exact s.withTrk_moves ht _
  split
  · exact begins.trans (State.raise_moves _ _ ht _)
  · exact begins

theorem State.openWindow_moves (s : State) (c : Schedule) (e : StandEntry) (k : Stand) : Moves G s (s.openWindow c e k) := by
  unfold State.openWindow
  split
  · exact .refl
  · split
    · exact s.withTrk_moves ht _
    · exact .refl

theorem State.updateGaugeSpeed_moves (s : State) (sn : Table 7 StandSnap) : Moves G s (s.updateGaugeSpeed sn) := by
  unfold State.updateGaugeSpeed
  split
  · exact .refl
  · split
    · exact s.withTrk_moves ht _
    · exact .refl

include hs

theorem State.create_moves (s : State) (k : Stand) (c : Schedule) (tail : Bool) : Moves G s (s.create k c tail) := by
  unfold State.create
  split
  · exact .refl
  · split
    · exact s.enterLost_moves hs _ _
    · exact (((s.withTrk_moves ht _).tail (Move.cross _ _)).tail (Move.coil _ _ ht)).trans (State.raise_moves _ _ ht _)

theorem State.closeCreation_moves (s : State) (c : Schedule) (k : Stand) : Moves G s (s.closeCreation c k) := by
  unfold State.closeCreation
  extract_lets created
  have creates : Moves G s created := by
    unfold created
    split
    · exact s.create_moves hs ht k c true
    · exact .refl
  exact (creates.trans (State.withTrk_moves ht _ _)).trans (State.withTrk_moves ht _ _)

theorem State.trackTailOff_moves (s : State) (p : StandSnap) (k : Stand) : Moves G s (s.trackTailOff p k) := by
  unfold State.trackTailOff
  refine (s.loseHead_moves ht k).trans ?_
  split
  · split
    · exact State.closeCreation_moves hs ht _ _ _
    · exact State.forceCross_moves ht _ _ _
  · exact .refl

theorem State.trackBites_moves (s : State) (sn : Table 7 StandSnap) : Moves G s (s.trackBites sn) := by
  unfold State.trackBites
  refine (((Moves.foldl (fun s j => ?_) _ _).trans (Moves.foldl (fun s k => ?_) _ _)).trans
    (Moves.foldl (fun s k => ?_) _ _)).trans (Moves.foldl (fun s k => ?_) _ _)
  · split
    · exact s.closeInto_moves ht j
    · exact .refl
  · split
    · exact s.trackTailOff_moves hs ht _ k
    · exact .refl
  · split
    · exact s.startBar_moves ht _ _ _
    · exact .refl
  · split
    · exact s.openWindow_moves ht _ _ _
    · exact .refl

theorem State.stripDrop_moves (s : State) : Moves G s s.stripDrop :=
  (State.removeCrossed_moves hs _ _).trans (State.withTrk_moves ht _ _)

theorem State.gaugeCross_moves (s : State) (thr : Nat) : Moves G s (s.gaugeCross thr) := by
  unfold State.gaugeCross
  extract_lets q
  split
  · exact .refl
  · split
    · exact (s.withTrk_moves ht _).trans (State.slip_moves ht _ _ _)
    · split
      · exact (((s.withTrk_moves ht _).tail (Move.cross _ 1)).trans (State.removeOldest_moves hs _ _ _ _)).trans
          (State.slipIf_moves ht _ _ _ _)
      · exact (s.withTrk_moves ht _).trans (State.slip_moves ht _ _ _)

theorem State.countGauge_moves (s : State) (sn : Table 7 StandSnap) : Moves G s (s.countGauge sn) := by
  unfold State.countGauge
  split
  · exact .refl
  · split
    · exact .refl
    · split
      · extract_lets bad degraded counted
        have degrades : Moves G s degraded := by
          unfold degraded
          split
          · exact s.degrade_moves ht
          · exact .refl
        have counts : Moves G s counted := degrades.trans (degraded.withTrk_moves ht _)
        split
        · exact counts
        · exact counts.trans (State.gaugeCross_moves hs ht _ _)
      · exact .refl

theorem State.standCross_moves (s : State) (c : Schedule) (entryPoint : Bool) (k : Stand) :
    Moves G s (s.standCross c entryPoint k) := by
  unfold State.standCross
  dsimp only
  split
  · exact .refl
  · split
    · split
      · exact s.create_moves hs ht _ _ _
      · exact ((s.setQ_moves ht k _).trans (State.create_moves hs ht _ k c false)).trans (State.slipIf_moves ht _ _ _ _)
    · split
      · split
        · exact (s.withTrk_moves ht _).trans (State.slip_moves ht _ _ _)
        · exact (((s.setQ_moves ht k _).trans (State.withTrk_moves ht _ _)).tail (Move.cross _ 1)).trans
            (State.slipIf_moves ht _ _ _ _)
      · exact (s.withTrk_moves ht _).trans (State.slip_moves ht _ _ _)

theorem State.countStand_moves (sn : Table 7 StandSnap) (s : State) (k : Stand) : Moves G s (State.countStand sn s k) := by
  unfold State.countStand
  dsimp only
  split
  · split
    · split
      · exact s.degrade_moves ht
      · have degrades : Moves G s (if (sn.get k).speed.2 = Mark.fresh then s else s.degrade) := by
          split
          · exact .refl
          · exact s.degrade_moves ht
        exact ((degrades.trans (State.setQ_moves ht _ _ _)).trans (State.withTrk_moves ht _ _)).trans
          (State.standCross_moves hs ht _ _ _ _)
    · exact .refl
  · exact .refl

theorem State.presentSpeedLost_moves (s : State) (sn : Table 7 StandSnap) : Moves G s (s.presentSpeedLost sn) := by
  unfold State.presentSpeedLost
  dsimp only
  split
  · exact (s.withTrk_moves ht _).trans (State.enterLost_moves hs _ _ _)
  · exact s.withTrk_moves ht _

theorem State.track_moves (s : State) (sn : Table 7 StandSnap) (drop : Bool) : Moves G s (s.track sn drop) := by
  unfold State.track
  extract_lets presented bitten switched dropped counted crossed
  have bites : Moves G s bitten := ((s.presentSpeedLost_moves hs ht sn).trans (State.updateGaugeSpeed_moves ht _ sn)).trans
    (State.trackBites_moves hs ht _ sn)
  have switches : Moves G bitten switched := by
    unfold switched
    split
    · exact bitten.switchTest_moves
    · exact .refl
  have drops : Moves G switched dropped := by
    unfold dropped
    split
    · exact switched.stripDrop_moves hs ht
    · exact .refl
  exact ((((bites.trans switches).trans drops).trans (dropped.countGauge_moves hs ht sn)).trans
    (Moves.foldl (fun s k => State.countStand_moves hs ht sn s k) _ _)).trans
    (Moves.foldl (fun s k => State.advanceWindow_moves ht sn s k) _ _)

end

end Sys2Proof.Machine


/-! ## What moves leave alone -/

namespace Sys2Proof.Machine

open Safety

/-- What goes with the latch stands: all of TRP but its list, which only grows, the run state, TRIP_OUT, NEWS.TRIP, the requested modes. -/
structure State.LatchStands (s t : State) : Prop where
  trp : t.trp = { s.trp with list := t.trp.list, unlisted := t.trp.unlisted }
  list : s.trp.list <+: t.trp.list
  runState : t.lnk.runState = s.lnk.runState
  tripOut : t.tripOut = s.tripOut
  news : t.news.trip = s.news.trip
  requested : ∀ k, (t.stand k).requested = (s.stand k).requested

/-- What moves leave alone: the rest of the state; with the latch set all that goes with it; the present level causes; of a
computation all but its counts and the stands it has switched. -/
structure State.Around (s t : State) : Prop where
  rest : t = { s with
    tripOut := t.tripOut
    news := { s.news with trip := t.news.trip, counter := t.news.counter, page := t.news.page, coil := t.news.coil }
    irq := t.irq, irqSignals := t.irqSignals, cram := t.cram
    lnk := { s.lnk with runState := t.lnk.runState }
    stu := { s.stu with
      stands := t.stu.stands, active := t.stu.active, pending := t.stu.pending, switchCharge := t.stu.switchCharge }
    trk := t.trk, gap := t.gap, trp := t.trp, tripNumber := t.tripNumber, evc := t.evc, rpt := t.rpt, comp := t.comp }
  latched : s.trp.latch = true → s.LatchStands t
  present : t.trp.present = s.trp.present
  idle : s.comp = none → t.comp = none
  comp : ∀ x, s.comp = some x → ∃ y, t.comp = some y ∧
    y = { x with crossings := y.crossings, switches := y.switches, switched := y.switched }

section
variable {G : EventGroup → Prop} {s t u : State}

theorem State.LatchStands.refl (s : State) : s.LatchStands s := ⟨rfl, List.prefix_refl _, rfl, rfl, rfl, fun _ => rfl⟩

theorem State.LatchStands.latch (h : s.LatchStands t) : t.trp.latch = s.trp.latch := by rw [h.trp]

theorem State.LatchStands.firstOut (h : s.LatchStands t) : t.trp.firstOut = s.trp.firstOut := by rw [h.trp]

theorem State.LatchStands.trans (h : s.LatchStands t) (g : t.LatchStands u) : s.LatchStands u where
  trp := by rw [g.trp, h.trp]
  list := h.list.trans g.list
  runState := g.runState.trans h.runState
  tripOut := g.tripOut.trans h.tripOut
  news := g.news.trans h.news
  requested k := (g.requested k).trans (h.requested k)

theorem State.Around.refl (s : State) : s.Around s :=
  ⟨rfl, fun _ => .refl s, rfl, id, fun x h => ⟨x, h, rfl⟩⟩

theorem State.Around.trans (h : s.Around t) (g : t.Around u) : s.Around u where
  rest := by rw [g.rest, h.rest]
  latched latch := (h.latched latch).trans (g.latched ((h.latched latch).latch.trans latch))
  present := g.present.trans h.present
  idle none := g.idle (h.idle none)
  comp x hx := by
    obtain ⟨y, hy, same⟩ := h.comp x hx
    obtain ⟨z, hz, same'⟩ := g.comp y hy
    exact ⟨z, hz, by rw [same', same]⟩

theorem Trp.listed_frame (t : Trp) (c : Cause) (time : Word) :
    t.listed c time = { t with list := (t.listed c time).list, unlisted := (t.listed c time).unlisted } := by
  unfold Trp.listed
  dsimp only
  split
  · rfl
  · split <;> rfl

theorem Trp.listed_prefix (t : Trp) (c : Cause) (time : Word) : t.list <+: (t.listed c time).list := by
  unfold Trp.listed
  dsimp only
  split
  · exact List.prefix_refl _
  · split
    · exact List.prefix_append _ _
    · exact List.prefix_refl _

theorem State.detect_around (s : State) (c : Cause) (time : Word) : s.Around (s.detect c time) := by
  rw [State.detect]
  cases latch : s.trp.latch with
  | false =>
    rw [State.detectFrom_clear latch]
    exact ⟨rfl, fun set => absurd (latch.symm.trans set) (by decide), rfl, id, fun x h => ⟨x, h, rfl⟩⟩
  | true =>
    have equation := State.detectFrom_set latch s.trp c time
    generalize s.detectFrom s.trp c time = t at equation
    have trp : t.trp = s.trp.listed c time := by rw [equation]
    refine ⟨by rw [equation], fun _ => ⟨?_, ?_, ?_, ?_, ?_, fun k => ?_⟩, ?_, ?_, ?_⟩
    · rw [trp]; exact Trp.listed_frame _ _ _
    · rw [trp]; exact Trp.listed_prefix _ _ _
    · rw [equation]
    · rw [equation]
    · rw [equation]
    · rw [equation]; rfl
    · rw [trp]; exact Trp.listed_present _ _ _
    · rw [equation]; exact id
    · rw [equation]; exact fun x h => ⟨x, h, rfl⟩

theorem State.chargeSwitch_comp (s : State) (k : Stand) : (s.comp = none → (s.chargeSwitch k).comp = none) ∧
    ∀ x, s.comp = some x → ∃ y, (s.chargeSwitch k).comp = some y ∧
      y = { x with switches := y.switches, switched := y.switched } := by
  by_cases hw : ∃ x, s.comp = some x ∧ x.working = true
  · obtain ⟨x, hx, hw⟩ := hw
    rw [State.chargeSwitch_working hx hw, hx]
    exact ⟨fun h => absurd h (Option.some_ne_none x), fun _ h => by cases h; exact ⟨_, rfl, rfl⟩⟩
  · have hw : ∀ x, s.comp = some x → x.working = false := fun x hx => by
      by_contra h
      exact hw ⟨x, hx, by simpa using h⟩
    rw [State.chargeSwitch_later hw]
    exact ⟨id, fun x h => ⟨x, h, rfl⟩⟩

theorem Move.around (h : Move G s t) : s.Around t := by
  have same {t : State} (trp : t.trp = s.trp) (run : t.lnk.runState = s.lnk.runState) (out : t.tripOut = s.tripOut)
      (news : t.news.trip = s.news.trip) (requested : ∀ k, (t.stand k).requested = (s.stand k).requested) :
      s.LatchStands t := ⟨by rw [trp], by rw [trp], run, out, news, requested⟩
  cases h with
  | detect c time => exact s.detect_around c time
  | count n h => exact ⟨rfl, fun _ => same rfl rfl rfl rfl fun _ => rfl, rfl, id, fun x h => ⟨x, h, rfl⟩⟩
  | coil id' h =>
    unfold State.coilCreated
    split
    · exact .refl s
    · exact ⟨rfl, fun _ => same rfl rfl rfl rfl fun _ => rfl, rfl, id, fun x h => ⟨x, h, rfl⟩⟩
  | news counter page coil => exact ⟨rfl, fun _ => same rfl rfl rfl rfl fun _ => rfl, rfl, id, fun x h => ⟨x, h, rfl⟩⟩
  | report m r h => exact ⟨rfl, fun _ => same rfl rfl rfl rfl fun _ => rfl, rfl, id, fun x h => ⟨x, h, rfl⟩⟩
  | monitor mi figures last => exact ⟨rfl, fun _ => same rfl rfl rfl rfl fun _ => rfl, rfl, id, fun x h => ⟨x, h, rfl⟩⟩
  | switch p k h unused =>
    obtain ⟨idle, comp⟩ := s.chargeSwitch_comp k
    rw [State.switchOne_eq]
    refine ⟨rfl, fun _ => same rfl rfl rfl rfl fun j => ?_, rfl, idle, fun x hx => ?_⟩
    · show ((s.stu.stands.modify k StandRec.switched).get j).requested = (s.stu.stands.get j).requested
      rw [Table.get_modify]
      split <;> rfl
    · obtain ⟨y, hy, same⟩ := comp x hx
      exact ⟨y, hy, by rw [same]⟩
  | change p h =>
    refine ⟨rfl, fun _ => same rfl rfl rfl rfl fun j => ?_, rfl, id, fun x h => ⟨x, h, rfl⟩⟩
    show ((s.stu.stands.map (fun r => { r with use := Use.active })).get j).requested = _
    rw [Table.get_map]
    rfl
  | flush => exact ⟨rfl, fun _ => same rfl rfl rfl rfl fun _ => rfl, rfl, id, fun x h => ⟨x, h, rfl⟩⟩
  | track t h => exact ⟨rfl, fun _ => same rfl rfl rfl rfl fun _ => rfl, rfl, id, fun x h => ⟨x, h, rfl⟩⟩
  | cross n =>
    refine ⟨rfl, fun _ => same rfl rfl rfl rfl fun _ => rfl, rfl, fun h => ?_,
      fun x h => ⟨{ x with crossings := x.crossings + n }, ?_, rfl⟩⟩
    · exact congrArg (Option.map _) h
    · exact congrArg (Option.map _) h

theorem Moves.around (h : Moves G s t) : s.Around t := by
  induction h with
  | refl => exact .refl s
  | tail _ step ih => exact ih.trans step.around

/-! ### The counters -/

/-- R146 to R154: counters of other groups than those of the events raised keep their values, but for a clearing. -/
structure State.Counts (G : EventGroup → Prop) (s t : State) : Prop where
  setting : ∀ n, (t.evc.counters.get n).group = (s.evc.counters.get n).group ∧
    (t.evc.counters.get n).perCoil = (s.evc.counters.get n).perCoil
  kept : ∀ n, ¬ G (s.evc.counters.get n).group → t.evc.counters.get n = s.evc.counters.get n ∨
    G .track ∧ (s.evc.counters.get n).perCoil = true ∧ t.evc.counters.get n = { s.evc.counters.get n with value := 0 }

theorem State.Counts.same (h : t.evc = s.evc) : s.Counts G t := by
  constructor <;> intro n <;> simp [h]

theorem State.Counts.trans (h : s.Counts G t) (g : t.Counts G u) : s.Counts G u where
  setting n := ⟨(g.setting n).1.trans (h.setting n).1, (g.setting n).2.trans (h.setting n).2⟩
  kept n other := by
    have other' : ¬ G (t.evc.counters.get n).group := by rw [(h.setting n).1]; exact other
    rcases h.kept n other with first | ⟨track, perCoil, first⟩ <;> rcases g.kept n other' with next | ⟨track', perCoil', next⟩
    · exact .inl (next.trans first)
    · exact .inr ⟨track', (h.setting n).2.symm.trans perCoil', by rw [next, first]⟩
    · exact .inr ⟨track, perCoil, by rw [next, first]⟩
    · exact .inr ⟨track, perCoil, by rw [next, first]⟩

/-- A detection, whatever the latch: what it leaves of the fields that neither TRP nor a latching touches. -/
theorem State.detect_cases (s : State) (c : Cause) (time : Word) :
    (s.detect c time).evc = s.evc ∧ (s.detect c time).gap = s.gap ∧ (s.detect c time).stu.pending = s.stu.pending ∧
      (s.detect c time).trk = { s.trk with
        windows := (s.detect c time).trk.windows, tripFlush := (s.detect c time).trk.tripFlush } := by
  rw [State.detect]
  cases latch : s.trp.latch with
  | false => rw [State.detectFrom_clear latch]; exact ⟨rfl, rfl, rfl, rfl⟩
  | true => rw [State.detectFrom_set latch]; exact ⟨rfl, rfl, rfl, rfl⟩

theorem State.counted_counts (s : State) (n : Fin 8) (h : G (s.evc.counters.get n).group) : s.Counts G (s.counted n) := by
  have other (m : Fin 8) (hm : m ≠ n) : (s.counted n).evc.counters.get m = s.evc.counters.get m :=
    Table.get_set_other _ _ _ _ (Ne.symm hm)
  have one : (s.counted n).evc.counters.get n = (s.evc.counters.get n).counted := Table.get_set_same _ _ _
  refine ⟨fun m => ?_, fun m hm => .inl (other m fun same => hm (same ▸ h))⟩
  by_cases same : m = n
  · rw [same, one]; exact ⟨rfl, rfl⟩
  · rw [other m same]; exact ⟨rfl, rfl⟩

theorem State.coilCreated_counts (s : State) (id : Word) (h : G .track) : s.Counts G (s.coilCreated id) := by
  unfold State.coilCreated
  split
  · exact .same rfl
  · have cleared (c : Counter) : (c.coilCleared.group = c.group ∧ c.coilCleared.perCoil = c.perCoil) ∧
        (c.coilCleared = c ∨ c.perCoil = true ∧ c.coilCleared = { c with value := 0 }) := by
      unfold Counter.coilCleared
      split
      · next clears => exact ⟨⟨rfl, rfl⟩, .inr ⟨(Bool.and_eq_true _ _ ▸ clears).1, rfl⟩⟩
      · exact ⟨⟨rfl, rfl⟩, .inl rfl⟩
    constructor
    · intro n
      simpa only [Table.get_map] using (cleared (s.evc.counters.get n)).1
    · intro n _
      simpa only [Table.get_map, h, true_and] using (cleared (s.evc.counters.get n)).2

theorem Move.counts (h : Move G s t) : s.Counts G t := by
  cases h with
  | detect c time => exact .same (s.detect_cases c time).1
  | count n h => exact s.counted_counts n h
  | coil id h => exact s.coilCreated_counts id h
  | switch p k h unused => rw [State.switchOne_eq]; exact .same rfl
  | _ => exact .same rfl

theorem Moves.counts (h : Moves G s t) : s.Counts G t := by
  induction h with
  | refl => exact .same rfl
  | tail _ step ih => exact ih.trans step.counts

/-! ### GAP and the pending slot -/

/-- R10, R95: a stand's record in GAP changes by a switch alone, and a switch needs a pending schedule. -/
structure State.Regapped (s t : State) : Prop where
  pending : t.stu.pending = s.stu.pending ∨ t.stu.pending = none
  gaps : ∀ k, t.gapStand k = s.gapStand k ∨ s.stu.pending ≠ none ∧ t.gapStand k = (s.gapStand k).switched

theorem State.Regapped.same (pending : t.stu.pending = s.stu.pending) (gaps : t.gap.stands = s.gap.stands) : s.Regapped t :=
  ⟨.inl pending, fun k => .inl (by rw [State.gapStand, gaps]; rfl)⟩

theorem State.Regapped.trans (h : s.Regapped t) (g : t.Regapped u) : s.Regapped u where
  pending := by
    rcases g.pending with next | next
    · exact h.pending.imp next.trans next.trans
    · exact .inr next
  gaps k := by
    have before : t.stu.pending ≠ none → s.stu.pending ≠ none := fun some none =>
      some (h.pending.elim (fun same => same.trans none) id)
    rcases h.gaps k with first | ⟨pending, first⟩ <;> rcases g.gaps k with next | ⟨pending', next⟩
    · exact .inl (next.trans first)
    · exact .inr ⟨before pending', by rw [next, first]⟩
    · exact .inr ⟨pending, next.trans first⟩
    · exact .inr ⟨pending, by rw [next, first]; rfl⟩

theorem Move.regapped (h : Move G s t) : s.Regapped t := by
  cases h with
  | detect c time =>
    obtain ⟨-, gap, pending, -⟩ := s.detect_cases c time
    exact .same pending (by rw [gap])
  | switch p k h unused =>
    rw [State.switchOne_eq]
    refine ⟨.inl rfl, fun j => ?_⟩
    show (s.gap.stands.modify k GapRec.switched).get j = _ ∨ _ ∧ (s.gap.stands.modify k GapRec.switched).get j = _
    rw [Table.get_modify]
    split
    · exact .inr ⟨by rw [h]; exact Option.some_ne_none p, rfl⟩
    · exact .inl rfl
  | change p h => exact ⟨.inr rfl, fun k => .inl rfl⟩
  | coil id h =>
    unfold State.coilCreated
    split <;> exact .same rfl rfl
  | _ => exact .same rfl rfl

theorem Moves.regapped (h : Moves G s t) : s.Regapped t := by
  induction h with
  | refl => exact .same rfl rfl
  | tail _ step ih => exact ih.trans step.regapped

/-! ### TRK in a flush -/

/-- R76: what a flush leaves of TRK. -/
structure State.Flushed (s t : State) : Prop where
  trk : t.trk = { s.trk with
    state := t.trk.state, segs := t.trk.segs, creation := t.trk.creation, q := t.trk.q, qGauge := t.trk.qGauge
    windows := t.trk.windows, tripFlush := t.trk.tripFlush }
  windows : (∀ k, s.trk.windows.get k = none) → ∀ k, t.trk.windows.get k = none

theorem Move.flushed (h : Move ofFlush s t) : s.Flushed t := by
  cases h with
  | detect c time =>
    refine ⟨?_, fun none k => ?_⟩
    · rw [(s.detect_cases c time).2.2.2]
    · rw [State.detect]
      cases latch : s.trp.latch with
      | false => rw [State.detectFrom_clear latch]; exact Table.get_fill _ _
      | true => rw [State.detectFrom_set latch]; exact none k
  | switch p k h unused => rw [State.switchOne_eq]; exact ⟨rfl, id⟩
  | coil id' h => exact nomatch (show EventGroup.track = .segment from h)
  | track t h => exact nomatch (show EventGroup.track = .segment from h)
  | _ => exact ⟨rfl, id⟩

theorem Moves.flushed (h : Moves ofFlush s t) : s.Flushed t := by
  induction h with
  | refl => exact ⟨rfl, id⟩
  | tail _ step ih => exact ⟨by rw [step.flushed.trk, ih.trk], fun none => step.flushed.windows (ih.windows none)⟩

/-! ### CRAM below the trip record -/

theorem State.setTrp_low (s : State) (t : Trp) {a : Nat} (h : a < 0x00400) : (s.setTrp t).cram.read a = s.cram.read a := by
  unfold State.setTrp
  split
  · rfl
  · exact s.read_writeTripWords_outside _ _ (.inl h)

theorem State.detectFrom_low (s : State) (t : Trp) (c : Cause) (time : Word) {a : Nat} (h : a < 0x00400) :
    (s.detectFrom t c time).cram.read a = s.cram.read a := by
  unfold State.detectFrom
  split
  · exact s.setTrp_low _ h
  · exact s.setTrp_low _ h

theorem Move.low (h : Move G s t) {a : Nat} (ha : a < 0x00400) : t.cram.read a = s.cram.read a := by
  cases h with
  | detect c time => exact s.detectFrom_low _ _ _ ha
  | coil id h =>
    unfold State.coilCreated
    split <;> rfl
  | report m r h => exact h a (by omega)
  | switch p k h unused => rw [State.switchOne_eq]
  | _ => rfl

theorem Moves.low (h : Moves G s t) {a : Nat} (ha : a < 0x00400) : t.cram.read a = s.cram.read a := by
  induction h with
  | refl => rfl
  | tail _ step ih => exact (step.low ha).trans ih

end

end Sys2Proof.Machine


/-! ## Level causes of the host and of TRIP_IN -/

namespace Sys2Proof.Machine

open Safety

/-! ### TRK through removals and the flush -/

/-- R108: what a removal hands on, before it is tested for IDLE: the segment is out of the table. -/
def State.handedOn (s : State) (rest : List Segment) (g : Segment) (endOfCoil : Bool) (kind : Removal) (time : Word) : State :=
  let s := { s with trk := { s.trk with segs := rest } }
  let a := assess s.gaugeOut (s.figuresFor g.coilId) g
  let s := (s.monitor g a kind).raise ⟨.segment, segmentSub g a.quality, some g.zone, none⟩ time
  ((s.report g a endOfCoil time).dropIfLast g.serial).switchTest

theorem State.removeOldest_empty {s : State} (h : s.trk.segs = []) (kind : Removal) (trip : Bool) (time : Word) :
    s.removeOldest kind trip time = s := by simp only [State.removeOldest, h]

theorem State.removeOldest_eq {s : State} {g : Segment} {rest : List Segment} (h : s.trk.segs = g :: rest) (kind : Removal)
    (trip : Bool) (time : Word) : s.removeOldest kind trip time =
      (s.handedOn rest (g.stamped trip) (!(rest.any (fun x => x.coilId == (g.stamped trip).coilId) ||
        s.trk.creation.any (fun r => r.coilId == (g.stamped trip).coilId))) kind time).idleIfEmpty := by
  simp only [State.removeOldest, h]
  rfl

/-- What TRK holds besides its windows and the flush it owes, and RPT's part in a removal aside. -/
structure State.SameTrack (s t : State) : Prop where
  state : t.trk.state = s.trk.state
  segs : t.trk.segs = s.trk.segs
  creation : t.trk.creation = s.trk.creation
  q : t.trk.q = s.trk.q
  qGauge : t.trk.qGauge = s.trk.qGauge

theorem State.SameTrack.of_trk {s t : State} (h : t.trk = s.trk) : s.SameTrack t := by
  constructor <;> rw [h]

theorem State.SameTrack.of_kept {s t : State} (h : s.Kept t) : s.SameTrack t :=
  ⟨h.track, h.segs, h.creation, h.q, h.qGauge⟩

theorem State.SameTrack.trans {s t u : State} (h : s.SameTrack t) (g : t.SameTrack u) : s.SameTrack u :=
  ⟨g.state.trans h.state, g.segs.trans h.segs, g.creation.trans h.creation, g.q.trans h.q, g.qGauge.trans h.qGauge⟩

theorem State.switchTest_trk (s : State) : s.switchTest.trk = s.trk := switchThrough_trk _ _

theorem State.handedOn_track (s : State) (rest : List Segment) (g : Segment) (e : Bool) (kind : Removal) (time : Word) :
    State.SameTrack { s with trk := { s.trk with segs := rest } } (s.handedOn rest g e kind time) := by
  unfold State.handedOn
  dsimp only
  generalize assess _ _ _ = a
  refine (State.SameTrack.of_trk (State.monitor_trk _ g a kind)).trans ?_
  refine (State.SameTrack.of_kept (State.raise_kept _ ⟨.segment, segmentSub g a.quality, some g.zone, none⟩ time)).trans ?_
  exact .of_trk (by rw [State.switchTest_trk, State.dropIfLast_trk, State.report_trk])

/-- R77: the test for IDLE. -/
theorem State.idleIfEmpty_state (s : State) : s.idleIfEmpty.trk.state =
    if s.trk.segs = [] ∧ s.trk.creation = none ∧ (s.trk.state = .normal ∨ s.trk.state = .degraded) then .idle
    else s.trk.state := by
  have test : (s.trk.segs.isEmpty && s.trk.creation.isNone &&
      (s.trk.state == .normal || s.trk.state == .degraded)) = true ↔
      s.trk.segs = [] ∧ s.trk.creation = none ∧ (s.trk.state = .normal ∨ s.trk.state = .degraded) := by
    simp only [Bool.and_eq_true, Bool.or_eq_true, List.isEmpty_iff, Option.isNone_iff_eq_none, beq_iff_eq, and_assoc]
  rw [State.idleIfEmpty]
  by_cases h : s.trk.segs = [] ∧ s.trk.creation = none ∧ (s.trk.state = .normal ∨ s.trk.state = .degraded)
  · rw [if_pos (test.mpr h), if_pos h]
  · rw [if_neg (mt test.mp h), if_neg h]

theorem State.idleIfEmpty_frame (s : State) :
    s.idleIfEmpty = { s with trk := { s.trk with state := s.idleIfEmpty.trk.state } } := by
  unfold State.idleIfEmpty
  split <;> rfl

/-- R68, R77: what a removal leaves of TRK. -/
structure State.Popped (s t : State) : Prop where
  segs : t.trk.segs = s.trk.segs.tail
  creation : t.trk.creation = s.trk.creation
  q : t.trk.q = s.trk.q
  qGauge : t.trk.qGauge = s.trk.qGauge
  lost : s.trk.state = .lost → t.trk.state = .lost

theorem State.removeOldest_popped (s : State) (kind : Removal) (trip : Bool) (time : Word) :
    s.Popped (s.removeOldest kind trip time) := by
  cases segs : s.trk.segs with
  | nil => rw [State.removeOldest_empty segs]; exact ⟨by rw [segs]; rfl, rfl, rfl, rfl, id⟩
  | cons g rest =>
    rw [State.removeOldest_eq segs]
    generalize (!(_ || _) : Bool) = e
    have handed := s.handedOn_track rest (g.stamped trip) e kind time
    generalize s.handedOn rest (g.stamped trip) e kind time = t at handed
    refine ⟨?_, ?_, ?_, ?_, fun lost => ?_⟩
    · rw [State.idleIfEmpty_segs, segs]; exact handed.segs
    · rw [State.idleIfEmpty_frame]; exact handed.creation
    · rw [State.idleIfEmpty_frame]; exact handed.q
    · rw [State.idleIfEmpty_frame]; exact handed.qGauge
    · have still : t.trk.state = .lost := handed.state.trans lost
      rw [State.idleIfEmpty_state, still]
      simp

theorem State.removeMany_lost (kind : Removal) (trip : Bool) (time : Word) (n : Nat) {s : State} (h : s.trk.state = .lost) :
    (State.removeMany kind trip time n s).trk.state = .lost := by
  induction n generalizing s with
  | zero => exact h
  | succ n ih => exact ih ((s.removeOldest_popped kind trip time).lost h)

/-- R76: what a flush leaves of TRK. -/
theorem State.enterLost_trk {s : State} (h : s.trk.state ≠ .lost) (trip : Bool) (time : Word) :
    (s.enterLost trip time).trk.state = .lost ∧ (s.enterLost trip time).trk.segs = [] ∧
      (s.enterLost trip time).trk.creation = none ∧ (s.enterLost trip time).trk.q = Table.fill 7 0 ∧
      (s.enterLost trip time).trk.qGauge = 0 := by
  have flushed : (s.enterLost trip time).trk = (State.clearTracking (State.removeMany .flush trip time s.trk.segs.length
      { s with trk := { s.trk with state := .lost } })).trk := by
    rw [State.enterLost, if_neg h]
    dsimp only
    split
    · rfl
    · exact State.switchTest_trk _
  have lost := State.removeMany_lost .flush trip time s.trk.segs.length (s := { s with trk := { s.trk with state := .lost } }) rfl
  have segs := State.removeMany_segs .flush trip time s.trk.segs.length { s with trk := { s.trk with state := .lost } }
  rw [flushed]
  generalize State.removeMany .flush trip time s.trk.segs.length { s with trk := { s.trk with state := .lost } } = t at *
  exact ⟨lost, segs.trans List.drop_length, rfl, rfl, rfl⟩

end Sys2Proof.Machine


/-! ## COMMANDED and EXTERNAL -/

namespace Sys2Proof.Machine

open Safety

/-! ### The trip record and the flush a trip owes -/

/-- R135: a change of TRP's content is recorded. -/
theorem State.setTrp_recorded {s : State} {t : Trp} (h : t ≠ s.trp) :
    s.setTrp t = { s with trp := t, tripNumber := s.tripNumber + 1, cram := (s.setTrp t).cram } ∧
      (s.setTrp t).cram.readWords 0x00400 65 = tripWords (s.tripNumber + 1) t ∧
      ∀ a, a < 0x00400 ∨ 0x00504 ≤ a → (s.setTrp t).cram.read a = s.cram.read a := by
  rw [State.setTrp_of_ne h]
  exact ⟨rfl, s.readWords_writeTripWords _ _, fun a ha => s.read_writeTripWords_outside _ _ ha⟩

/-- R76: with no flush owed outside a computation, none is made. -/
theorem State.settleTrip_of_flushLaw {s : State} (h : FlushLaw s) : s.settleTrip = s := by
  cases comp : s.comp with
  | none => exact s.settleTrip_none (h comp)
  | some x => simp only [State.settleTrip, comp]

/-- R76: within a computation a trip does not flush. -/
theorem State.settleTrip_computing {s : State} {x : Computation} (h : s.comp = some x) : s.settleTrip = s := by
  simp only [State.settleTrip, h]

/-- R76: outside a computation the flush a trip owes is made at once. -/
theorem State.settleTrip_flushes {s : State} (h : s.comp = none) (owed : s.trk.tripFlush = true) :
    s.settleTrip = { s.enterLost true s.time with trk := { (s.enterLost true s.time).trk with tripFlush := false } } := by
  simp only [State.settleTrip, h, State.tripFlushNow, owed, if_true]

/-- R129 to R131, R44, R20, R76, R81: what a level cause that latches leaves, its flush settled. -/
structure State.Trips (s : State) (t : Trp) (c : Cause) (r : State) : Prop where
  latch : r.trp.latch = true
  firstOut : r.trp.firstOut = some (s.firstOutOf c s.time)
  present : r.trp.present = t.present
  armed : r.trp.armed = false
  feed : ∀ k, r.trp.feed.get k = none
  tripOut : r.tripOut = false
  news : r.news.trip = true
  lnk : r.lnk = { s.lnk with runState := s.lnk.runState.afterTrip }
  requested : ∀ k, (r.stand k).requested = .position
  windows : ∀ k, r.trk.windows.get k = none
  created : r.trk.created = s.trk.created
  tripIn : r.tripIn = s.tripIn
  ctrl : r.ctrlCommanded = s.ctrlCommanded
  flush : s.comp = none → s.trk.state ≠ .lost → r.trk.state = .lost ∧ r.trk.segs = [] ∧ r.trk.creation = none ∧
    (∀ k, r.trk.q.get k = 0) ∧ r.trk.qGauge = 0
  computing : ∀ x, s.comp = some x → r.comp = some x ∧
    r.trk = { s.trk with windows := r.trk.windows, tripFlush := true }

theorem State.detectFrom_trips {s : State} (latch : s.trp.latch = false) (t : Trp) (c : Cause) :
    s.Trips t c (s.detectFrom t c s.time).settleTrip := by
  have equation := State.detectFrom_clear latch t c s.time
  generalize s.detectFrom t c s.time = w at equation
  have flush : Moves ofFlush w w.settleTrip := w.settleTrip_moves (G := ofFlush) rfl
  obtain ⟨rest, latched, present, -, -⟩ := flush.around
  have flushed := flush.flushed
  have trp : w.trp = t.latched (s.firstOutOf c s.time) := by rw [equation]
  have stands := latched (by rw [trp]; rfl)
  have shut (k : Stand) : w.trk.windows.get k = none := by rw [equation]; exact Table.get_fill _ _
  constructor
  case latch => rw [stands.latch, trp]; rfl
  case firstOut => rw [stands.firstOut, trp]; rfl
  case present => rw [present, trp]; rfl
  case armed => rw [stands.trp, trp]; rfl
  case feed => intro k; rw [stands.trp, trp]; exact Table.get_fill _ _
  case tripOut => rw [stands.tripOut, equation]
  case news => rw [stands.news, equation]
  case lnk => 
    have lnk : w.settleTrip.lnk = { w.lnk with runState := w.settleTrip.lnk.runState } := by rw [rest]
    rw [lnk, stands.runState, equation]
  case requested =>
    intro k
    rw [stands.requested, equation]
    exact congrArg StandRec.requested (Table.get_map _ _ _)
  case windows => exact flushed.windows shut
  case created => rw [flushed.trk, equation]
  case tripIn => rw [rest, equation]
  case ctrl => rw [rest, equation]
  case flush =>
    intro idle tracking
    have still : w.trk.state ≠ .lost := by rw [equation]; exact tracking
    obtain ⟨lost, segs, creation, q, qGauge⟩ := State.enterLost_trk still true w.time
    rw [State.settleTrip_flushes (by rw [equation]; exact idle) (by rw [equation])]
    exact ⟨lost, segs, creation, fun k => by rw [q]; exact Table.get_fill _ _, qGauge⟩
  case computing =>
    intro x hx
    have computing : w.comp = some x := by rw [equation]; exact hx
    rw [State.settleTrip_computing computing]
    exact ⟨computing, by rw [equation]⟩

/-- R132, R135: what a level cause that joins leaves while the latch is set. -/
theorem State.detectFrom_joins {s : State} (latch : s.trp.latch = true) {t : Trp} (differs : t.present ≠ s.trp.present) (c : Cause)
    (time : Word) : let r := s.detectFrom t c time
    r = { s with trp := t.listed c time, tripNumber := s.tripNumber + 1, cram := r.cram } ∧
      r.cram.readWords 0x00400 65 = tripWords r.tripNumber r.trp ∧
      ∀ a, a < 0x00400 ∨ 0x00504 ≤ a → r.cram.read a = s.cram.read a := by
  dsimp only
  have ne : t.listed c time ≠ s.trp := fun same => differs (by rw [← same, Trp.listed_present])
  obtain ⟨equation, record, outside⟩ := State.setTrp_recorded ne
  rw [State.detectFrom_latched s t c time latch]
  refine ⟨equation, ?_, outside⟩
  have number : (s.setTrp (t.listed c time)).tripNumber = s.tripNumber + 1 := by rw [equation]
  rw [record, number, State.setTrp_trp]

/-- R117, R135: what a level cause that leaves changes. -/
theorem State.setTrp_leaves {s : State} {t : Trp} (differs : t.present ≠ s.trp.present) :
    s.setTrp t = { s with trp := t, tripNumber := s.tripNumber + 1, cram := (s.setTrp t).cram } ∧
      (s.setTrp t).cram.readWords 0x00400 65 = tripWords (s.setTrp t).tripNumber (s.setTrp t).trp ∧
      ∀ a, a < 0x00400 ∨ 0x00504 ≤ a → (s.setTrp t).cram.read a = s.cram.read a := by
  have ne : t ≠ s.trp := fun same => differs (by rw [same])
  obtain ⟨equation, record, outside⟩ := State.setTrp_recorded ne
  refine ⟨equation, ?_, outside⟩
  have number : (s.setTrp t).tripNumber = s.tripNumber + 1 := by rw [equation]
  rw [record, number, State.setTrp_trp]

/-! ### TRIP_IN -/

theorem Cause.same_external {c : Cause} (h : c ≠ .external) : c.same .external = false := by
  unfold Cause.same
  split
  · contradiction
  · exact beq_eq_false_iff_ne.mpr h

theorem State.setTripIn_same {s : State} {b : Bool} (h : s.tripIn = b) : s.setTripIn b = s := by
  subst h
  simp [State.setTripIn]

theorem State.setTripIn_change {s : State} {b : Bool} (awake : s.resetting = none) (h : s.tripIn ≠ b) :
    s.setTripIn b = (State.setExternal { s with tripIn := b } (!b)).settleTrip := by
  simp only [State.setTripIn, awake]
  refine if_neg ?_
  simpa using h

/-- Settles O37: by the line's level, then by the latch. -/
theorem tripInIsALevelCause : Obligations.TripInIsALevelCause := by
  intro dt s
  dsimp only
  generalize hu : s.elapse dt = u
  intro awake level owes
  have external : u.trp.present.external = !u.tripIn := by
    have := level.1
    rw [awake] at this
    simpa using this
  have low : exec (.tripInLow dt) s = .next (u.setTripIn false) := by rw [← hu]; rfl
  have high : exec (.tripInHigh dt) s = .next (u.setTripIn true) := by rw [← hu]; rfl
  have falls (h : u.tripIn = true) : u.setTripIn false = (State.detectFrom { u with tripIn := false }
      { u.trp with present := { u.trp.present with external := true } } .external u.time).settleTrip := by
    rw [State.setTripIn_change awake (by rw [h]; decide)]
    congr 1
    exact if_pos (by rw [external, h]; rfl)
  refine ⟨fun h => by rw [low, State.setTripIn_same h], fun h => by rw [high, State.setTripIn_same h], fun h latch => ?_,
    fun h latch => ?_, fun h => ?_⟩
  · have trips := State.detectFrom_trips (s := { u with tripIn := false }) latch
      { u.trp with present := { u.trp.present with external := true } } .external
    rw [← falls h] at trips
    refine ⟨_, low, trips.tripIn, by rw [trips.present], trips.latch, trips.firstOut, trips.tripOut, trips.news, trips.armed,
      trips.feed, trips.lnk.trans ?_, trips.requested, trips.windows, trips.created, trips.flush, trips.computing⟩
    cases u.lnk.runState <;> rfl
  · have differs : { u.trp.present with external := true } ≠ u.trp.present := fun same => by
      have := congrArg Present.external same
      rw [external, h] at this
      exact Bool.false_ne_true this.symm
    obtain ⟨equation, record, outside⟩ := State.detectFrom_joins (s := { u with tripIn := false }) latch
      (t := { u.trp with present := { u.trp.present with external := true } }) differs .external u.time
    have fell := falls h
    generalize State.detectFrom { u with tripIn := false } { u.trp with present := { u.trp.present with external := true } }
      .external u.time = r at *
    rw [State.settleTrip_of_flushLaw (by rw [equation]; exact owes)] at fell
    refine ⟨r, by rw [low, fell], ?_, ?_, ?_, ?_, record, outside, fun list first room => ?_⟩
    · rw [equation]
    · rw [equation]; exact (Trp.listed_latch _ _ _).trans latch
    · rw [equation]; exact Trp.listed_firstOut _ _ _
    · rw [equation]; exact Trp.listed_present _ _ _
    · rw [equation]
      exact congrArg Trp.list (Trp.listed_new (t := { u.trp with present := { u.trp.present with external := true } })
        (fun e he => Cause.same_external (list e he)) (fun f hf => Cause.same_external (first f hf)) room)
  · have differs : { u.trp.present with external := false } ≠ u.trp.present := fun same => by
      have := congrArg Present.external same
      rw [external, h] at this
      exact Bool.false_ne_true this
    obtain ⟨equation, record, outside⟩ := State.setTrp_leaves (s := { u with tripIn := true })
      (t := { u.trp with present := { u.trp.present with external := false } }) differs
    have owes' : FlushLaw (State.setTrp { u with tripIn := true }
        { u.trp with present := { u.trp.present with external := false } }) := by rw [equation]; exact owes
    have rises : u.setTripIn true = State.setTrp { u with tripIn := true }
        { u.trp with present := { u.trp.present with external := false } } := by
      rw [State.setTripIn_change awake (by rw [h]; decide)]
      exact State.settleTrip_of_flushLaw owes'
    exact ⟨_, high.trans (congrArg _ rises), equation, record, outside⟩

/-! ### CTRL.COMMANDED -/

theorem State.ctrlWrite_same {s : State} {v : Word} (awake : s.resetting = none) (whole : v.getLsbD 0 = false)
    (h : v.getLsbD 1 = s.ctrlCommanded) : s.ctrlWrite v = s := by
  unfold State.ctrlWrite
  rw [awake, whole]
  exact if_pos h

theorem State.ctrlWrite_change {s : State} {v : Word} (awake : s.resetting = none) (whole : v.getLsbD 0 = false)
    (h : v.getLsbD 1 ≠ s.ctrlCommanded) :
    s.ctrlWrite v = (State.setCommanded { s with ctrlCommanded := v.getLsbD 1 } (v.getLsbD 1)).settleTrip := by
  unfold State.ctrlWrite
  rw [awake, whole]
  exact if_neg h

/-- Settles O8: by the bit, then by the latch. -/
theorem commandedBitIsALevelCause : Obligations.CommandedBitIsALevelCause := by
  intro dt v s
  dsimp only
  generalize hu : s.elapse dt = u
  intro awake whole level owes
  have commanded : u.trp.present.commanded = u.ctrlCommanded := level.2.1
  have runs : exec (.commanded dt v) s = .next (u.ctrlWrite v) := by rw [← hu]; rfl
  refine ⟨fun h => by rw [runs, State.ctrlWrite_same awake whole h], fun set clear => ?_, fun clear set => ?_⟩
  · have writes : u.ctrlWrite v = (State.detectFrom { u with ctrlCommanded := true }
        { u.trp with present := { u.trp.present with commanded := true } } .commanded u.time).settleTrip := by
      rw [State.ctrlWrite_change awake whole (by rw [set, clear]; decide), set]
      congr 1
      exact if_pos (by rw [commanded, clear]; rfl)
    cases latch : u.trp.latch with
    | false =>
      have trips := State.detectFrom_trips (s := { u with ctrlCommanded := true }) latch
        { u.trp with present := { u.trp.present with commanded := true } } .commanded
      rw [← writes] at trips
      exact ⟨_, runs, trips.ctrl, by rw [trips.present], trips.latch, trips.tripIn, trips.created,
        fun h => absurd h (by decide), fun _ => trips.firstOut⟩
    | true =>
      have differs : { u.trp.present with commanded := true } ≠ u.trp.present := fun same => by
        have := congrArg Present.commanded same
        rw [commanded, clear] at this
        exact Bool.false_ne_true this.symm
      obtain ⟨equation, record, outside⟩ := State.detectFrom_joins (s := { u with ctrlCommanded := true }) latch
        (t := { u.trp with present := { u.trp.present with commanded := true } }) differs .commanded u.time
      generalize State.detectFrom { u with ctrlCommanded := true }
        { u.trp with present := { u.trp.present with commanded := true } } .commanded u.time = r at *
      rw [State.settleTrip_of_flushLaw (by rw [equation]; exact owes)] at writes
      refine ⟨r, by rw [runs, writes], ?_, ?_, ?_, ?_, ?_, fun _ => ⟨?_, ?_, record, outside⟩, fun h => absurd h (by decide)⟩
      · rw [equation]
      · rw [equation]; exact congrArg Present.commanded (Trp.listed_present _ _ _)
      · rw [equation]; exact (Trp.listed_latch _ _ _).trans latch
      · rw [equation]
      · rw [equation]
      · rw [equation]; exact Trp.listed_firstOut _ _ _
      · rw [equation]
  · have differs : { u.trp.present with commanded := false } ≠ u.trp.present := fun same => by
      have := congrArg Present.commanded same
      rw [commanded, set] at this
      exact Bool.false_ne_true this
    obtain ⟨equation, record, outside⟩ := State.setTrp_leaves (s := { u with ctrlCommanded := false })
      (t := { u.trp with present := { u.trp.present with commanded := false } }) differs
    have owes' : FlushLaw (State.setTrp { u with ctrlCommanded := false }
        { u.trp with present := { u.trp.present with commanded := false } }) := by rw [equation]; exact owes
    have writes : u.ctrlWrite v = State.setTrp { u with ctrlCommanded := false }
        { u.trp with present := { u.trp.present with commanded := false } } := by
      rw [State.ctrlWrite_change awake whole (by rw [set, clear]; decide), clear]
      exact State.settleTrip_of_flushLaw owes'
    exact ⟨_, runs.trans (congrArg _ writes), equation, record, outside⟩

end Sys2Proof.Machine


/-! ## RUN_STATE orders at a cycle start -/

namespace Sys2Proof.Machine

open Safety

/-! ### Completion and the stop of the link -/

/-- R179: what a completion with nothing queued shows and leaves. -/
theorem State.complete_shows {s : State} {t : Taken} (ht : s.ord.taken = some t) (queue : s.ord.queue = []) (o : OrderOutcome) :
    SlotShows (s.complete o []) t.slot (if o = .ok then slotDone else slotRefused) o [] ∧
      (s.complete o []).ord = ⟨[], none⟩ ∧ s.complete o [] = { s with
        cram := (s.complete o []).cram, hif := (s.complete o []).hif, news := (s.complete o []).news
        irq := (s.complete o []).irq, irqSignals := (s.complete o []).irqSignals, ord := (s.complete o []).ord } := by
  have fin := State.finish_taken_eq ht o []
  obtain ⟨shownState, shownOutcome, shownResults⟩ := s.cram.outcome_shows t.slot o (rs := []) (Nat.zero_le 15)
  rw [State.complete_idle queue]
  generalize s.finish o [] = f at fin
  refine ⟨SlotShows.of_words (fun a lo hi => ?_) shownState shownOutcome shownResults, ?_, ?_⟩
  · have base := slotBase_le t.slot
    rw [State.haltedStatus_word _ (by omega), fin]
    rfl
  · rw [State.haltedStatus_ord, fin, queue]
  · rw [State.haltedStatus_eq, fin]

/-- R43, R55, R97: LNK as the link stops, and the computation it makes late. -/
def State.linkHalted (s : State) : State :=
  { s with
    lnk := { s.lnk with runState := .halted, cycle := none, waiting := [], silence := 0 }
    comp := s.comp.map (fun c => { c with late := true }) }

/-- R123: the level causes without those of the link. -/
def Trp.linkLess (t : Trp) : Trp :=
  { t with present := { t.present with linkSilent := false, forceLimit := Table.fill 7 false } }

theorem State.linkStop_eq (s : State) : s.linkStop = (State.setTrp (s.detect .halt s.time).linkHalted
    (s.detect .halt s.time).trp.linkLess).settleTrip := rfl

/-- R43, R55, R123: what the stop of the link leaves. -/
theorem State.linkStop_leaves (s : State) : s.linkStop.trp.latch = true ∧
    s.linkStop.lnk = { s.lnk with runState := .halted, cycle := none, waiting := [], silence := 0 } ∧
    s.linkStop.trp.present = { s.trp.present with linkSilent := false, forceLimit := Table.fill 7 false } ∧
    (s.trp.latch = false → s.linkStop.trp.firstOut = some (s.firstOutOf .halt s.time)) ∧
    s.linkStop.linkOut = s.linkOut ∧ s.linkStop.ord = s.ord := by
  have latch : (s.detect .halt s.time).trp.latch = true := (State.detectFrom_trp s s.trp .halt s.time rfl).1
  have first (clear : s.trp.latch = false) : (s.detect .halt s.time).trp.firstOut = some (s.firstOutOf .halt s.time) := by
    rw [State.detect_latched clear]; rfl
  obtain ⟨rest, -, present, -, -⟩ := s.detect_around .halt s.time
  rw [State.linkStop_eq]
  generalize s.detect .halt s.time = d at *
  have lnk : d.linkHalted.lnk = { s.lnk with runState := .halted, cycle := none, waiting := [], silence := 0 } := by
    rw [rest]; rfl
  have linkOut : d.linkHalted.linkOut = s.linkOut := by rw [rest]; rfl
  have ord : d.linkHalted.ord = s.ord := by rw [rest]; rfl
  generalize d.linkHalted = h at *
  have frame := h.setTrp_frame d.trp.linkLess
  generalize h.setTrp d.trp.linkLess = l at frame
  obtain ⟨settled, latched, same, -, -⟩ := (l.settleTrip_moves (G := ofFlush) rfl).around
  have stands := latched (by rw [frame]; exact latch)
  refine ⟨?_, ?_, ?_, fun clear => ?_, ?_, ?_⟩
  · rw [stands.latch, frame]; exact latch
  · have still : l.settleTrip.lnk = { l.lnk with runState := l.settleTrip.lnk.runState } := by rw [settled]
    rw [still, stands.runState, frame, lnk]
  · rw [same, frame, ← present]; rfl
  · rw [stands.firstOut, frame]; exact first clear
  · rw [settled, frame, linkOut]
  · rw [settled, frame, ord]

/-! ### The order at its cycle start -/

/-- R40: a RUN_STATE order taken while the link runs waits. -/
def State.awaiting (s : State) (i : Fin 32) (target : Target) (args : List Word) : State :=
  { s with ord := { s.ord with taken := some ⟨i, .runState target, args, .waiting⟩ } }

/-- R40, R22: a waiting RUN_STATE order is applied and completes at the next cycle start, which comes unless it stops the link. -/
theorem exec_cycleStart_awaiting {s : State} {i : Fin 32} {target : Target} {args : List Word} {c : Cycle} {timing : Timing}
    (h : Timely s) (hc : s.lnk.cycle = some c) (ht : s.lnk.timing = some timing) (now : c.startAt + timing.cyc = s.clock)
    {r : State × OrderOutcome} (applied : (s.awaiting i target args).endCycle.applyRunState target = r) :
    exec .cycleStart (s.awaiting i target args) = .next
      (if (r.1.complete r.2 []).lnk.runState = .halted then r.1.complete r.2 [] else (r.1.complete r.2 []).beginCycle) := by
  have timely : Timely (s.awaiting i target args) := fun d t hd => by
    cases d
    case order => simp [State.dueAt, State.orderHanded, State.awaiting] at hd
    case copyEnd => simp [State.dueAt, State.awaiting] at hd
    case computeEnd => exact h .computeEnd t hd
    case replyDeadline => exact h .replyDeadline t hd
    case commandOffset => exact h .commandOffset t hd
    case cycleStart => exact h .cycleStart t hd
    case resetCompletion => exact h .resetCompletion t hd
  have settled := Settled.of_waiting (t := ⟨i, .runState target, args, .waiting⟩) timely rfl rfl
  have taken : (s.awaiting i target args).endCycle.ord.taken = some ⟨i, .runState target, args, .waiting⟩ := by
    simp only [State.endCycle, State.awaiting, hc]
  rw [exec_cycleStart settled hc ht now, State.cycleStartEvent]
  have deferred : (s.awaiting i target args).endCycle.deferredRunState = r.1.complete r.2 [] := by
    simp only [State.deferredRunState, taken, applied]
  rw [deferred]

theorem exec_runState_awaits {s : State} {i : Fin 32} {target : Target} {args : List Word} {cmd : Instr}
    (h : cmd = .runStateRun ∧ target = .run ∨ cmd = .runStateReady ∧ target = .ready ∨ cmd = .runStateHalt ∧ target = .halt)
    (taken : s.ord.taken = some ⟨i, .runState target, args, .handed⟩) (running : s.lnk.runState ≠ .halted) :
    exec cmd s = .next (s.awaiting i target args) := by
  have waits : s.runStateOrder target = s.awaiting i target args := by
    rw [State.runStateOrder_handed taken, if_neg running, State.setPhase, taken]
    rfl
  rcases h with ⟨rfl, rfl⟩ | ⟨rfl, rfl⟩ | ⟨rfl, rfl⟩ <;> exact congrArg _ waits

/-- Settles O17: the outcome by `State.applyRunState`, then the cycle start it leaves. -/
theorem runStateOrdersApplyAtTheCycleStart : Obligations.RunStateOrdersApplyAtTheCycleStart := by
  intro s i args c timing
  dsimp only
  intro timely hc ht now queue
  have ends (target : Target) : (s.awaiting i target args).endCycle = { s.awaiting i target args with lnk := { s.lnk with
      cycle := none, waiting := if c.started then s.lnk.waiting else s.lnk.waiting ++ [c], published := c.log
      publishedOverflow := c.overflow } } := by
    simp only [State.endCycle, State.awaiting, hc]
  have starts {cmd : Instr} {target : Target} {o : OrderOutcome} {after : RunState} {state : Word}
      (shown : (if o = .ok then slotDone else slotRefused) = state)
      (h : cmd = .runStateRun ∧ target = .run ∨ cmd = .runStateReady ∧ target = .ready ∨ cmd = .runStateHalt ∧ target = .halt)
      (taken : s.ord.taken = some ⟨i, .runState target, args, .handed⟩) (running : s.lnk.runState ≠ .halted)
      (still : after ≠ .halted)
      (applied : (s.awaiting i target args).endCycle.applyRunState target =
        ({ (s.awaiting i target args).endCycle with
          lnk := { (s.awaiting i target args).endCycle.lnk with runState := after } }, o)) :
      ∃ s' t, exec cmd s = .next s' ∧ exec .cycleStart s' = .next t ∧ t.lnk.runState = after ∧
        t.lnk.cycleNumber = s.lnk.cycleNumber + 1 ∧
        t.linkOut = s.linkOut ++ [syncFrame (s.lnk.cycleNumber + 1) after s.trp.latch] ∧
        SlotShows t i state o [] ∧ t.ord = ⟨[], none⟩ ∧ t.stu = s.stu ∧
        t.trp = s.trp ∧ t.gap = s.gap := by
    have cycle := exec_cycleStart_awaiting timely hc ht now applied
    dsimp only at cycle
    rw [ends target] at cycle
    generalize hw : State.complete _ o [] = w at cycle
    obtain ⟨shows', idle, frame⟩ := State.complete_shows (s := { s.awaiting i target args with lnk := { s.lnk with
      cycle := none, waiting := if c.started then s.lnk.waiting else s.lnk.waiting ++ [c], published := c.log
      publishedOverflow := c.overflow, runState := after } }) rfl queue o
    have same : State.complete _ o [] = w := hw
    rw [same] at shows' idle frame
    rw [if_neg (by rw [frame]; exact still)] at cycle
    refine ⟨_, _, exec_runState_awaits h taken running, cycle, ?_, ?_, ?_, shown ▸ shows', idle, ?_, ?_, ?_⟩
    · rw [frame]; rfl
    · rw [frame]; rfl
    · rw [frame]; rfl
    · rw [frame]; rfl
    · rw [frame]; rfl
    · rw [frame]; rfl
  have running {now : RunState} (h : s.lnk.runState = now) (other : now ≠ .halted) : s.lnk.runState ≠ .halted := by
    rw [h]; exact other
  have changed {target : Target} {now after : RunState} (h : s.lnk.runState = now) {o : OrderOutcome}
      (applied : ∀ v : State, v.lnk.runState = now → v.trp = s.trp → v.stu = s.stu →
        v.applyRunState target = ({ v with lnk := { v.lnk with runState := after } }, o)) :
      (s.awaiting i target args).endCycle.applyRunState target = ({ (s.awaiting i target args).endCycle with
        lnk := { (s.awaiting i target args).endCycle.lnk with runState := after } }, o) := by
    rw [ends target]
    exact applied _ h rfl rfl
  have unchanged {target : Target} {now : RunState} (h : s.lnk.runState = now) {o : OrderOutcome}
      (applied : ∀ v : State, v.lnk.runState = now → v.trp = s.trp → v.stu = s.stu → v.applyRunState target = (v, o)) :
      (s.awaiting i target args).endCycle.applyRunState target = ({ (s.awaiting i target args).endCycle with
        lnk := { (s.awaiting i target args).endCycle.lnk with runState := now } }, o) := by
    refine changed h fun v hv htrp hstu => ?_
    rw [applied v hv htrp hstu, ← hv]
  refine ⟨fun taken ready => ⟨fun latch => ?_, fun latch none => ?_, fun latch some => ?_⟩, fun taken run => ?_,
    fun taken ready => ?_, fun taken run => ?_, fun taken run => ?_, fun taken ready => ?_⟩
  · refine starts rfl (.inl ⟨rfl, rfl⟩) taken (running ready (by decide)) (by decide) (unchanged ready fun v hv htrp _ => ?_)
    simp [State.applyRunState, hv, htrp, latch]
  · refine starts rfl (.inl ⟨rfl, rfl⟩) taken (running ready (by decide)) (by decide) (unchanged ready fun v hv htrp hstu => ?_)
    simp [State.applyRunState, hv, htrp, latch, hstu, none]
  · refine starts rfl (.inl ⟨rfl, rfl⟩) taken (running ready (by decide)) (by decide) (changed ready fun v hv htrp hstu => ?_)
    simp [State.applyRunState, hv, htrp, latch, hstu, some]
  · refine starts rfl (.inl ⟨rfl, rfl⟩) taken (running run (by decide)) (by decide) (unchanged run fun v hv _ _ => ?_)
    simp [State.applyRunState, hv]
  · refine starts rfl (.inr (.inl ⟨rfl, rfl⟩)) taken (running ready (by decide)) (by decide) (unchanged ready fun v hv _ _ => ?_)
    simp [State.applyRunState, hv]
  · refine starts rfl (.inr (.inl ⟨rfl, rfl⟩)) taken (running run (by decide)) (by decide) (changed run fun v hv _ _ => ?_)
    simp [State.applyRunState, hv]
  · refine starts rfl (.inr (.inr ⟨rfl, rfl⟩)) taken (running run (by decide)) (by decide) (unchanged run fun v hv _ _ => ?_)
    simp [State.applyRunState, hv]
  · have applied : (s.awaiting i .halt args).endCycle.applyRunState .halt = ((s.awaiting i .halt args).endCycle.linkStop, .ok) := by
      have still : (s.awaiting i .halt args).endCycle.lnk.runState = .ready := by rw [ends]; exact ready
      simp [State.applyRunState, still]
    have cycle := exec_cycleStart_awaiting timely hc ht now applied
    dsimp only at cycle
    obtain ⟨latch, lnk, present, first, linkOut, ord⟩ := (s.awaiting i .halt args).endCycle.linkStop_leaves
    rw [ends] at cycle lnk present first linkOut ord latch
    generalize State.linkStop _ = r at cycle lnk present first linkOut ord latch
    obtain ⟨shows', idle, frame⟩ := State.complete_shows (s := r) (t := ⟨i, .runState .halt, args, .waiting⟩)
      (by rw [ord]; rfl) (by rw [ord]; exact queue) .ok
    generalize r.complete .ok [] = w at cycle shows' idle frame
    have wlnk : w.lnk = r.lnk := by rw [frame]
    have wtrp : w.trp = r.trp := by rw [frame]
    rw [if_pos (by rw [wlnk, lnk])] at cycle
    refine ⟨_, w, exec_runState_awaits (.inr (.inr ⟨rfl, rfl⟩)) taken (running ready (by decide)), cycle, ?_, ?_, ?_, ?_, ?_, ?_,
      ?_, fun clear => ?_, fun k => ?_, ?_, shows', idle⟩
    · rw [wlnk, lnk]
    · rw [wlnk, lnk]
    · rw [wlnk, lnk]
    · rw [frame]; exact linkOut
    · rw [wtrp]; exact latch
    · rw [wlnk, lnk]
    · rw [wlnk, lnk]
    · rw [wtrp, first clear, ← ready]; rfl
    · rw [wtrp, present]; exact Table.get_fill _ _
    · rw [wtrp, present]

end Sys2Proof.Machine


/-! ## The work of a compute start: what it leaves alone -/

namespace Sys2Proof.Machine

open Safety

/-! ### The work after LNK's -/

/-- What the work of a compute start leaves alone, LNK's own work apart: the rest of the state; of the computation all but its
counts and the stands it has switched; the references committed and sent; the counters of the groups it raises no event of;
a first-out, and the list behind it, which only grows. -/
structure State.Within (s t : State) : Prop where
  rest : t = { s with
    tripOut := t.tripOut
    news := { s.news with trip := t.news.trip, counter := t.news.counter, page := t.news.page, coil := t.news.coil }
    irq := t.irq, irqSignals := t.irqSignals, cram := t.cram
    lnk := { s.lnk with runState := t.lnk.runState }
    stu := { s.stu with
      stands := t.stu.stands, active := t.stu.active, pending := t.stu.pending, switchCharge := t.stu.switchCharge }
    trk := t.trk, gap := t.gap, trp := t.trp, tripNumber := t.tripNumber, evc := t.evc, rpt := t.rpt, comp := t.comp }
  comp : ∀ x, s.comp = some x → ∃ y, t.comp = some y ∧
    y = { x with crossings := y.crossings, switches := y.switches, switched := y.switched }
  refs : ∀ k, (t.gapStand k).committed = (s.gapStand k).committed ∧ (t.gapStand k).rPrev = (s.gapStand k).rPrev
  counts : s.Counts ofTracking t
  latched : s.trp.latch = true →
    t.trp.latch = true ∧ t.trp.firstOut = s.trp.firstOut ∧ s.trp.list <+: t.trp.list
  low : ∀ a, a < 0x00400 → t.cram.read a = s.cram.read a

section
variable {s t u : State}

theorem State.Within.refl (s : State) : s.Within s :=
  ⟨rfl, fun x h => ⟨x, h, rfl⟩, fun _ => ⟨rfl, rfl⟩, .same rfl, fun l => ⟨l, rfl, List.prefix_refl _⟩, fun _ _ => rfl⟩

theorem State.Within.trans (h : s.Within t) (g : t.Within u) : s.Within u where
  rest := by rw [g.rest, h.rest]
  comp x hx := by
    obtain ⟨y, hy, same⟩ := h.comp x hx
    obtain ⟨z, hz, same'⟩ := g.comp y hy
    exact ⟨z, hz, by rw [same', same]⟩
  refs k := ⟨(g.refs k).1.trans (h.refs k).1, (g.refs k).2.trans (h.refs k).2⟩
  counts := h.counts.trans g.counts
  latched latch := by
    obtain ⟨still, first, list⟩ := h.latched latch
    obtain ⟨still', first', list'⟩ := g.latched still
    exact ⟨still', first'.trans first, list.trans list'⟩
  low a ha := (g.low a ha).trans (h.low a ha)

theorem State.Within.foldl {α : Type} {f : State → α → State} (h : ∀ (s : State) a, s.Within (f s a)) (l : List α) (s : State) :
    s.Within (l.foldl f s) := by
  induction l generalizing s with
  | nil => exact .refl s
  | cons a l ih => exact (h s a).trans (ih _)

theorem Moves.within (h : Moves ofTracking s t) : s.Within t := by
  obtain ⟨rest, latched, -, -, comp⟩ := h.around
  refine ⟨rest, comp, fun k => ?_, h.counts, fun latch => ?_, fun a ha => h.low ha⟩
  · rcases h.regapped.gaps k with same | ⟨-, switched⟩
    · rw [same]; exact ⟨rfl, rfl⟩
    · rw [switched]; exact ⟨rfl, rfl⟩
  · have stands := latched latch
    exact ⟨stands.latch.trans latch, stands.firstOut, stands.list⟩

/-- A change of TRP that keeps latch, first-out and list. -/
theorem State.setTrp_within {s : State} {t : Trp} (latch : t.latch = s.trp.latch) (first : t.firstOut = s.trp.firstOut)
    (list : s.trp.list <+: t.list) : s.Within (s.setTrp t) := by
  have low (a : Nat) (h : a < 0x00400) := s.setTrp_low t h
  have frame := s.setTrp_frame t
  generalize s.setTrp t = u at frame low
  refine ⟨by rw [frame], ?_, ?_, ?_, fun l => ?_, low⟩
  · rw [frame]; exact fun x h => ⟨x, h, rfl⟩
  · rw [frame]; exact fun _ => ⟨rfl, rfl⟩
  · rw [frame]; exact .same rfl
  · rw [frame]; exact ⟨latch.trans l, first, list⟩

theorem State.detectFrom_within {s : State} {t : Trp} (latch : t.latch = s.trp.latch) (first : t.firstOut = s.trp.firstOut)
    (list : t.list = s.trp.list) (c : Cause) (time : Word) : s.Within (s.detectFrom t c time) := by
  cases set : s.trp.latch with
  | false =>
    have low (a : Nat) (h : a < 0x00400) := s.detectFrom_low t c time h
    have frame := State.detectFrom_clear set t c time
    generalize s.detectFrom t c time = u at frame low
    refine ⟨by rw [frame], ?_, ?_, ?_, fun l => absurd (set.symm.trans l) (by decide), low⟩
    · rw [frame]; exact fun x h => ⟨x, h, rfl⟩
    · rw [frame]; exact fun _ => ⟨rfl, rfl⟩
    · rw [frame]; exact .same rfl
  | true =>
    rw [State.detectFrom_latched _ _ _ _ set]
    exact State.setTrp_within ((Trp.listed_latch _ _ _).trans latch) ((Trp.listed_firstOut _ _ _).trans first)
      (list ▸ Trp.listed_prefix t c time)

theorem State.detect_within (s : State) (c : Cause) (time : Word) : s.Within (s.detect c time) :=
  State.detectFrom_within rfl rfl rfl _ _

theorem State.setLinkSilent_within (s : State) (b : Bool) : s.Within (s.setLinkSilent b) := by
  unfold State.setLinkSilent
  dsimp only
  split
  · exact State.detectFrom_within (by rfl) (by rfl) (by rfl) _ _
  · exact State.setTrp_within rfl rfl (List.prefix_refl _)

theorem State.setForceLimit_within (s : State) (k : Stand) (b : Bool) : s.Within (s.setForceLimit k b) := by
  unfold State.setForceLimit
  dsimp only
  split
  · exact State.detectFrom_within (by rfl) (by rfl) (by rfl) _ _
  · exact State.setTrp_within rfl rfl (List.prefix_refl _)

theorem State.judgeForce_within (sn : Table 7 StandSnap) (s : State) (k : Stand) : s.Within (State.judgeForce sn s k) := by
  unfold State.judgeForce
  dsimp only
  split
  · exact s.setForceLimit_within _ _
  · exact s.setForceLimit_within _ _
  · exact s.setForceLimit_within _ _
  · exact .refl s

theorem State.seqHeadOn_within (s : State) (c : Schedule) (windows : Table 7 (Option Window)) (j : Stand) :
    s.Within (s.seqHeadOn c windows j) := by
  unfold State.seqHeadOn
  split
  · exact .refl s
  · extract_lets expected v
    have judged : s.Within v := by
      unfold v
      split
      · exact .refl s
      · exact s.detect_within _ _
    split
    · exact judged
    · split
      · exact judged
      · split
        · exact judged.trans (State.setTrp_within rfl rfl (List.prefix_refl _))
        · exact judged

theorem State.seqTailOff_within (s : State) (j : Stand) : s.Within (s.seqTailOff j) := by
  unfold State.seqTailOff
  extract_lets v
  have judged : s.Within v := by
    unfold v
    split
    · exact s.detect_within _ _
    · exact .refl s
  exact judged.trans (State.setTrp_within rfl rfl (List.prefix_refl _))

theorem State.sequenceCheck_within (sn : Table 7 StandSnap) (windows : Table 7 (Option Window)) (s : State) (k : Stand) :
    s.Within (State.sequenceCheck sn windows s k) := by
  unfold State.sequenceCheck
  dsimp only
  split
  · exact .refl s
  · exact s.seqTailOff_within k
  · split
    · unfold State.armChecks
      split
      · exact .refl s
      · exact State.setTrp_within rfl rfl (List.prefix_refl _)
    · split
      · exact s.seqHeadOn_within _ _ _
      · exact .refl s

theorem State.startSlotBar_within (s : State) (k : Stand) : s.Within (s.startSlotBar k) := by
  unfold State.startSlotBar
  split <;> exact ⟨rfl, fun x h => ⟨x, h, rfl⟩, fun _ => ⟨rfl, rfl⟩, .same rfl, fun l => ⟨l, rfl, List.prefix_refl _⟩, fun _ _ => rfl⟩

theorem State.biteUpdate_stand (s : State) (k : Stand) : s.biteUpdate.stand k = (s.stand k).bitten (s.biteOf k) := by
  simp only [State.biteUpdate, State.stand, Table.get_build]

theorem State.biteUpdate_gapStand (s : State) (k : Stand) :
    s.biteUpdate.gapStand k = (s.gapStand k).bitten (s.biteOf k) := by
  simp only [State.biteUpdate, State.gapStand, Table.get_build]

theorem State.biteUpdate_within (s : State) : s.Within s.biteUpdate := by
  refine ⟨rfl, fun x h => ⟨x, h, rfl⟩, fun k => ?_, .same rfl, fun l => ⟨l, rfl, List.prefix_refl _⟩, fun _ _ => rfl⟩
  rw [State.biteUpdate_gapStand, GapRec.bitten]
  split <;> exact ⟨rfl, rfl⟩

theorem State.modifyGap_get (s : State) (j k : Stand) (f : GapRec → GapRec) :
    (s.modifyGap j f).gapStand k = if k = j then f (s.gapStand k) else s.gapStand k := Table.get_modify _ _ _ _

theorem State.modifyStand_get (s : State) (j k : Stand) (f : StandRec → StandRec) :
    (s.modifyStand j f).stand k = if k = j then f (s.stand k) else s.stand k := Table.get_modify _ _ _ _

theorem State.lockOn_within (sn : Table 7 StandSnap) (s : State) (k : Stand) : s.Within (State.lockOn sn s k) := by
  unfold State.lockOn
  dsimp only
  split
  · exact .refl s
  · refine ⟨rfl, fun x h => ⟨x, h, rfl⟩, fun j => ?_, .same rfl, fun l => ⟨l, rfl, List.prefix_refl _⟩, fun _ _ => rfl⟩
    rw [State.modifyGap_get]
    split <;> exact ⟨rfl, rfl⟩

theorem State.deriveModes_within (s start : State) (sn : Table 7 StandSnap) : s.Within (s.deriveModes start sn) :=
  ⟨rfl, fun x h => ⟨x, h, rfl⟩, fun _ => ⟨rfl, rfl⟩, .same rfl, fun l => ⟨l, rfl, List.prefix_refl _⟩, fun _ _ => rfl⟩

theorem State.detectNodes_within (s : State) (sn : Table 7 StandSnap) (before : List Node) :
    s.Within (s.detectNodes sn before) := by
  unfold State.detectNodes
  refine State.Within.foldl (fun s p => ?_) _ s
  split
  · exact .refl s
  · exact s.detect_within _ _

theorem State.settleStands_within (s start : State) (sn : Table 7 StandSnap) : s.Within (s.settleStands start sn) := by
  unfold State.settleStands
  extract_lets bitten barred locked derived nodes silent forced
  have bars : s.Within barred := s.biteUpdate_within.trans (State.Within.foldl (fun s k => by
    split
    · exact s.startSlotBar_within k
    · exact .refl s) _ _)
  have locks : s.Within locked := bars.trans (State.Within.foldl (State.lockOn_within sn) _ _)
  have detects : s.Within nodes := (locks.trans (locked.deriveModes_within start sn)).trans (derived.detectNodes_within sn _)
  exact ((detects.trans (nodes.setLinkSilent_within _)).trans (State.Within.foldl (State.judgeForce_within sn) _ _)).trans
    (State.Within.foldl (State.sequenceCheck_within sn _) _ _)

theorem State.deviationTest_within (sn : Table 7 StandSnap) (latch : Bool) (x : State × Table 7 Bool) (k : Stand) :
    x.1.Within (State.deviationTest sn latch x k).1 := by
  unfold State.deviationTest
  extract_lets v p g r counted tripped
  have counts : x.1.Within counted := by
    refine ⟨rfl, fun x h => ⟨x, h, rfl⟩, fun j => ?_, .same rfl, fun l => ⟨l, rfl, List.prefix_refl _⟩, fun _ _ => rfl⟩
    rw [State.modifyGap_get]
    split <;> exact ⟨rfl, rfl⟩
  show x.1.Within tripped
  unfold tripped
  split
  · exact counts.trans (counted.detect_within _ _)
  · exact counts

theorem State.deviationTests_within (sn : Table 7 StandSnap) (latch : Bool) (ks : List Stand) (x : State × Table 7 Bool) :
    x.1.Within (ks.foldl (State.deviationTest sn latch) x).1 := by
  induction ks generalizing x with
  | nil => exact .refl _
  | cons k ks ih => exact (State.deviationTest_within sn latch x k).trans (ih _)

end

end Sys2Proof.Machine


/-! ## LNK's work at a compute start -/

namespace Sys2Proof.Machine

open Safety

/-! ### Events and captures alone -/

/-- What events and captures leave alone: all but the latch with what goes with it, the counters and the capture area. -/
structure State.Hears (s t : State) : Prop where
  rest : t = { s with
    tripOut := t.tripOut
    news := { s.news with trip := t.news.trip, counter := t.news.counter, capture := t.news.capture }
    irq := t.irq, irqSignals := t.irqSignals, cram := t.cram
    lnk := { s.lnk with runState := t.lnk.runState }
    stu := { s.stu with stands := t.stu.stands }
    trk := { s.trk with windows := t.trk.windows, tripFlush := t.trk.tripFlush }
    trp := t.trp, tripNumber := t.tripNumber, evc := t.evc }
  stands : ∀ k, t.stand k = { s.stand k with requested := (t.stand k).requested }
  latched : s.trp.latch = true → s.LatchStands t
  present : t.trp.present = s.trp.present

/-- Two states in which an event does the same to EVC and TRP. -/
structure State.AlikeHeard (s t : State) : Prop where
  evc : t.evc = s.evc
  trp : t.trp = s.trp
  runState : t.lnk.runState = s.lnk.runState
  cycleNumber : t.lnk.cycleNumber = s.lnk.cycleNumber
  time : t.time = s.time

section
variable {s t u : State}

theorem State.Hears.refl (s : State) : s.Hears s := ⟨rfl, fun _ => rfl, fun _ => .refl s, rfl⟩

theorem State.Hears.trans (h : s.Hears t) (g : t.Hears u) : s.Hears u where
  rest := by rw [g.rest, h.rest]
  stands k := by rw [g.stands k, h.stands k]
  latched latch := (h.latched latch).trans (g.latched ((h.latched latch).latch.trans latch))
  present := g.present.trans h.present

theorem State.Hears.foldl {α : Type} {f : State → α → State} (h : ∀ (s : State) a, s.Hears (f s a)) (l : List α) (s : State) :
    s.Hears (l.foldl f s) := by
  induction l generalizing s with
  | nil => exact .refl s
  | cons a l ih => exact (h s a).trans (ih _)

theorem State.AlikeHeard.refl (s : State) : s.AlikeHeard s := ⟨rfl, rfl, rfl, rfl, rfl⟩

theorem State.AlikeHeard.trans (h : s.AlikeHeard t) (g : t.AlikeHeard u) : s.AlikeHeard u :=
  ⟨g.evc.trans h.evc, g.trp.trans h.trp, g.runState.trans h.runState, g.cycleNumber.trans h.cycleNumber, g.time.trans h.time⟩

theorem State.detect_hears (s : State) (c : Cause) (time : Word) : s.Hears (s.detect c time) := by
  obtain ⟨-, latched, present, -, -⟩ := s.detect_around c time
  refine ⟨?_, fun k => ?_, latched, present⟩
  · rw [State.detect]
    cases latch : s.trp.latch with
    | false => rw [State.detectFrom_clear latch]
    | true => rw [State.detectFrom_set latch]
  · rw [State.detect]
    cases latch : s.trp.latch with
    | false =>
      rw [State.detectFrom_clear latch]
      show (s.stu.stands.map (fun r => { r with requested := Requested.position })).get k = _
      rw [Table.get_map]
      show _ = { s.stand k with requested := ((s.stu.stands.map (fun r => { r with requested := Requested.position })).get k).requested }
      rw [Table.get_map]
      rfl
    | true => rw [State.detectFrom_set latch]; rfl

theorem State.countOne_hears (e : Event) (time : Word) (s : State) (n : Fin 8) : s.Hears (State.countOne e time s n) := by
  have counted : s.Hears (s.counted n) := ⟨rfl, fun _ => rfl,
    fun _ => ⟨rfl, List.prefix_refl _, rfl, rfl, rfl, fun _ => rfl⟩, rfl⟩
  cases passes : (s.evc.counters.get n).passes e with
  | false => rw [State.countOne_blocked passes]; exact .refl s
  | true =>
    rw [State.countOne_passed passes]
    split
    · split
      · exact counted
      · exact counted.trans ⟨rfl, fun _ => rfl, fun _ => ⟨rfl, List.prefix_refl _, rfl, rfl, rfl, fun _ => rfl⟩, rfl⟩
      · exact counted.trans (State.detect_hears _ _ _)
    · exact counted

theorem State.raise_hears (s : State) (e : Event) (time : Word) : s.Hears (s.raise e time) :=
  State.Hears.foldl (State.countOne_hears e time) _ s

theorem State.raises_hears (s : State) (es : List Event) (time : Word) :
    s.Hears (es.foldl (fun v e => v.raise e time) s) :=
  State.Hears.foldl (f := fun v e => State.raise v e time) (fun v e => v.raise_hears e time) es s

theorem State.raises_time (s : State) (es : List Event) (time : Word) :
    (es.foldl (fun v e => v.raise e time) s).time = s.time := by rw [(s.raises_hears es time).rest]

theorem State.captureVerdict_hears (s : State) (a : Byte) (v : Verdict) (number : Half) (offset : Nat) :
    s.Hears (s.captureVerdict a v number offset) := by
  unfold State.captureVerdict
  split
  · exact ⟨rfl, fun _ => rfl, fun _ => ⟨rfl, List.prefix_refl _, rfl, rfl, rfl, fun _ => rfl⟩, rfl⟩
  · exact .refl s

theorem State.captureVerdict_alike (s : State) (a : Byte) (v : Verdict) (number : Half) (offset : Nat) :
    s.AlikeHeard (s.captureVerdict a v number offset) := by
  unfold State.captureVerdict
  split
  · exact ⟨rfl, rfl, rfl, rfl, rfl⟩
  · exact .refl s

/-- R129, R132: a counter's detection reads and changes of TRP the same in states alike. -/
theorem State.AlikeHeard.detectCounter (h : s.AlikeHeard t) (n : Fin 8) (time : Word) :
    (s.detect (.counter n) time).AlikeHeard (t.detect (.counter n) time) := by
  have first : t.firstOutOf (.counter n) time = s.firstOutOf (.counter n) time := by
    simp only [State.firstOutOf, Cause.stand?, h.cycleNumber, h.runState, Option.map_none]
  rw [State.detect, State.detect]
  cases latch : s.trp.latch with
  | false =>
    have latch' : t.trp.latch = false := (congrArg Trp.latch h.trp).trans latch
    rw [State.detectFrom_clear latch, State.detectFrom_clear latch', first, h.trp]
    exact ⟨h.evc, rfl, congrArg RunState.afterTrip h.runState, h.cycleNumber, h.time⟩
  | true =>
    have latch' : t.trp.latch = true := (congrArg Trp.latch h.trp).trans latch
    rw [State.detectFrom_set latch, State.detectFrom_set latch', h.trp]
    exact ⟨h.evc, rfl, h.runState, h.cycleNumber, h.time⟩

theorem State.AlikeHeard.countOne (h : s.AlikeHeard t) (e : Event) (time : Word) (n : Fin 8) :
    (State.countOne e time s n).AlikeHeard (State.countOne e time t n) := by
  have same : t.evc.counters.get n = s.evc.counters.get n := by rw [h.evc]
  have counted : (s.counted n).AlikeHeard (t.counted n) :=
    ⟨by simp only [State.counted, h.evc], h.trp, h.runState, h.cycleNumber, h.time⟩
  cases passes : (s.evc.counters.get n).passes e with
  | false =>
    rw [State.countOne_blocked passes, State.countOne_blocked (by rw [same]; exact passes)]
    exact h
  | true =>
    rw [State.countOne_passed passes, State.countOne_passed (by rw [same]; exact passes), same]
    split
    · split
      · exact counted
      · exact ⟨counted.evc, counted.trp, counted.runState, counted.cycleNumber, counted.time⟩
      · exact counted.detectCounter n time
    · exact counted

theorem State.AlikeHeard.raise (h : s.AlikeHeard t) (e : Event) (time : Word) : (s.raise e time).AlikeHeard (t.raise e time) := by
  unfold State.raise
  generalize allCounters = ns
  induction ns generalizing s t with
  | nil => exact h
  | cons n ns ih => exact ih (h.countOne e time n)

theorem State.AlikeHeard.raises (h : s.AlikeHeard t) (es : List Event) (time : Word) :
    (es.foldl (fun v e => v.raise e time) s).AlikeHeard (es.foldl (fun v e => v.raise e time) t) := by
  induction es generalizing s t with
  | nil => exact h
  | cons e es ih =>
    simp only [List.foldl_cons]
    exact ih (h.raise e time)

/-! ### LNK's work -/

/-- R27: the MISSING events of a compute start, in node table order. -/
def missingEvents (nodes : List Node) (c : Cycle) : List Event :=
  (nodes.filter (fun n => (c.chargesOf n).isEmpty)).map (fun n => ⟨.link, .missing, none, n.stand⟩)

/-- R51: the LINK event of a node whose health has changed. -/
def healthEventOf (x : Node × Node) : Option Event :=
  if x.2.health = .degraded then some ⟨.link, .toDegraded, none, x.2.stand⟩
  else if x.2.health = .excluded then some ⟨.link, .toExcluded, none, x.2.stand⟩ else none

/-- R51: the nodes whose health changes, before and after. -/
def changedNodes (old new : List Node) : List (Node × Node) := (old.zip new).filter (fun x => x.1.health != x.2.health)

theorem State.afterVerdict_missing (s : State) (n : Node) (number : Half) (offset : Nat) :
    s.afterVerdict (some n) .missing number offset =
      (s.captureVerdict n.address .missing number offset).raise ⟨.link, .missing, none, n.stand⟩
        (s.captureVerdict n.address .missing number offset).time := rfl

theorem State.missingVerdicts_hears (s : State) (c : Cycle) : s.Hears (s.missingVerdicts c) := by
  unfold State.missingVerdicts
  refine State.Hears.foldl (fun s n => ?_) _ s
  split
  · rw [State.afterVerdict_missing]
    exact (s.captureVerdict_hears _ _ _ _).trans (State.raise_hears _ _ _)
  · exact .refl s

/-- R27: to EVC and TRP the MISSING verdicts are their events. -/
theorem State.missingVerdicts_alike (s : State) (c : Cycle) :
    ((missingEvents s.lnk.nodes c).foldl (fun v e => v.raise e s.time) s).AlikeHeard (s.missingVerdicts c) := by
  unfold State.missingVerdicts missingEvents
  have fold (ns : List Node) : ∀ {v w : State}, v.AlikeHeard w → w.time = s.time →
      (((ns.filter (fun n => (c.chargesOf n).isEmpty)).map
        (fun n => (⟨.link, .missing, none, n.stand⟩ : Event))).foldl (fun v e => v.raise e s.time) v).AlikeHeard
      (ns.foldl (fun s n => if (c.chargesOf n).isEmpty then s.afterVerdict (some n) .missing c.number (s.clock - c.startAt)
        else s) w) := by
    induction ns with
    | nil => exact fun h _ => h
    | cons n ns ih =>
      intro v w h time
      rw [List.foldl_cons, List.filter_cons]
      split
      · rw [List.map_cons, List.foldl_cons]
        have captured := w.captureVerdict_alike n.address .missing c.number (w.clock - c.startAt)
        have heard := (h.trans captured).raise ⟨.link, .missing, none, n.stand⟩ s.time
        rw [State.afterVerdict_missing, captured.time, time]
        refine ih heard ?_
        rw [((w.captureVerdict n.address .missing c.number (w.clock - c.startAt)).raise_kept _ _).time, captured.time, time]
      · exact ih h time
  exact fold _ (.refl s) rfl

theorem State.healthEvent_eq (s : State) (x : Node × Node) : s.healthEvent x.1 x.2 =
    (((changedNodes [x.1] [x.2]).filterMap healthEventOf).foldl (fun v e => v.raise e s.time) s) := by
  unfold State.healthEvent changedNodes
  cases changed : x.1.health != x.2.health with
  | false => simp [changed]
  | true =>
    simp only [List.zip_cons_cons, List.zip_nil_right, List.filter_cons, changed, if_true, List.filter_nil, List.filterMap_cons,
      List.filterMap_nil, healthEventOf]
    cases x.2.health <;> simp

theorem State.healthEvent_hears (s : State) (x : Node × Node) : s.Hears (s.healthEvent x.1 x.2) := by
  rw [State.healthEvent_eq]
  exact s.raises_hears _ _

/-- R51: to EVC and TRP the changes of health are their events. -/
theorem State.healthEvents_alike (pairs : List (Node × Node)) {v w : State} (h : v.AlikeHeard w) :
    (((pairs.filter (fun x => x.1.health != x.2.health)).filterMap healthEventOf).foldl (fun u e => u.raise e v.time) v).AlikeHeard
      (pairs.foldl (fun s p => s.healthEvent p.1 p.2) w) := by
  have fold (time : Word) : ∀ {v w : State}, v.AlikeHeard w → v.time = time →
      (((pairs.filter (fun x => x.1.health != x.2.health)).filterMap healthEventOf).foldl (fun u e => u.raise e time) v).AlikeHeard
        (pairs.foldl (fun s p => s.healthEvent p.1 p.2) w) := by
    induction pairs with
    | nil => exact fun h _ => h
    | cons x pairs ih =>
      intro v w h same
      have split (l : List (Node × Node)) : (x :: l).filter (fun x => x.1.health != x.2.health) =
          changedNodes [x.1] [x.2] ++ l.filter (fun x => x.1.health != x.2.health) := by
        rw [changedNodes, List.filter_cons]
        simp only [List.zip_cons_cons, List.zip_nil_right, List.filter_cons, List.filter_nil]
        split <;> rfl
      rw [split, List.filterMap_append, List.foldl_append, List.foldl_cons, State.healthEvent_eq, h.time, same]
      have heard := h.raises ((changedNodes [x.1] [x.2]).filterMap healthEventOf) time
      exact ih heard ((v.raises_time _ _).trans same)
  exact fold v.time h rfl

/-- R47: the nodes as the compute start of cycle `c` settles them. -/
def State.settledNodes (s : State) (c : Cycle) : List Node :=
  s.lnk.nodes.map (fun n => n.atComputeStart s.lnk.warn c.number (c.chargesOf n))

/-- R27, R51: the LINK events of LNK's work, in their order. -/
def State.linkEvents (s : State) (c : Cycle) : List Event :=
  missingEvents s.lnk.nodes c ++ (changedNodes s.lnk.nodes (s.settledNodes c)).filterMap healthEventOf

/-- R50, R54: what LNK's work leaves. -/
structure State.Linked (s : State) (c : Cycle) (t : State) : Prop where
  rest : t = { s with
    tripOut := t.tripOut
    news := { s.news with
      trip := t.news.trip, counter := t.news.counter, capture := t.news.capture
      node := s.news.node || !(changedNodes s.lnk.nodes (s.settledNodes c)).isEmpty }
    irq := t.irq, irqSignals := t.irqSignals, cram := t.cram
    lnk := { s.lnk with
      runState := t.lnk.runState, nodes := s.settledNodes c
      silence := if (s.settledNodes c).any (fun n => n.result == some true) then 0 else min (s.lnk.silence + 1) 3 }
    stu := { s.stu with stands := t.stu.stands }
    trk := { s.trk with windows := t.trk.windows, tripFlush := t.trk.tripFlush }
    trp := t.trp, tripNumber := t.tripNumber, evc := t.evc }
  stands : ∀ k, t.stand k = { s.stand k with requested := (t.stand k).requested }
  latched : s.trp.latch = true → s.LatchStands t
  present : t.trp.present = s.trp.present
  alike : ((s.linkEvents c).foldl (fun v e => v.raise e s.time) s).AlikeHeard t

theorem any_health_changed (pairs : List (Node × Node)) : pairs.any (fun p => p.1.health != p.2.health) =
    !(pairs.filter (fun x => x.1.health != x.2.health)).isEmpty := by
  induction pairs with
  | nil => rfl
  | cons x pairs ih =>
    rw [List.any_cons, ih, List.filter_cons]
    cases x.1.health != x.2.health <;> simp

/-- R54, R51: the state as LNK's results stand, before the changes of health are told. -/
def State.resultsIn (s : State) (new : List Node) (silence : Nat) (changed : Bool) : State :=
  let s := { s with lnk := { s.lnk with nodes := new, silence := silence } }
  if changed then s.noteNode else s

theorem State.resultsIn_frame (s : State) (new : List Node) (silence : Nat) (changed : Bool) :
    s.resultsIn new silence changed = { s with
      lnk := { s.lnk with nodes := new, silence := silence }
      news := { s.news with node := s.news.node || changed }
      irq := (s.resultsIn new silence changed).irq, irqSignals := (s.resultsIn new silence changed).irqSignals } := by
  cases changed with
  | false =>
    have same : { s.news with node := s.news.node || false } = s.news := by rw [Bool.or_false]
    rw [same]
    rfl
  | true =>
    have same : { s.news with node := s.news.node || true } = { s.news with node := true } := by rw [Bool.or_true]
    rw [same]
    rfl

theorem State.linkCompute_eq (s : State) (c : Cycle) : s.linkCompute c =
    ((s.missingVerdicts c).lnk.nodes.zip ((s.missingVerdicts c).settledNodes c)).foldl (fun s p => s.healthEvent p.1 p.2)
    ((s.missingVerdicts c).resultsIn ((s.missingVerdicts c).settledNodes c)
      (if ((s.missingVerdicts c).settledNodes c).any (fun n => n.result == some true) then 0
        else min ((s.missingVerdicts c).lnk.silence + 1) 3)
      (((s.missingVerdicts c).lnk.nodes.zip ((s.missingVerdicts c).settledNodes c)).any
        (fun p => p.1.health != p.2.health))) := rfl

theorem State.linkCompute_linked (s : State) (c : Cycle) : s.Linked c (s.linkCompute c) := by
  have missing := s.missingVerdicts_hears c
  have alike := s.missingVerdicts_alike c
  have nodes : (s.missingVerdicts c).lnk.nodes = s.lnk.nodes := by rw [missing.rest]
  have silence : (s.missingVerdicts c).lnk.silence = s.lnk.silence := by rw [missing.rest]
  have settled : (s.missingVerdicts c).settledNodes c = s.settledNodes c := by rw [missing.rest]; rfl
  have equation := s.linkCompute_eq c
  rw [any_health_changed, nodes, silence, settled, ← changedNodes] at equation
  rw [equation]
  generalize s.missingVerdicts c = m at missing alike
  have frame := m.resultsIn_frame (s.settledNodes c)
    (if (s.settledNodes c).any (fun n => n.result == some true) then 0 else min (s.lnk.silence + 1) 3)
    (!(changedNodes s.lnk.nodes (s.settledNodes c)).isEmpty)
  generalize m.resultsIn _ _ _ = r at frame
  have events : r.Hears ((s.lnk.nodes.zip (s.settledNodes c)).foldl (fun s p => s.healthEvent p.1 p.2) r) :=
    State.Hears.foldl (f := fun s p => State.healthEvent s p.1 p.2) (fun v x => v.healthEvent_hears x) _ r
  have results : m.AlikeHeard r := by rw [frame]; exact ⟨rfl, rfl, rfl, rfl, rfl⟩
  have heard := State.healthEvents_alike (s.lnk.nodes.zip (s.settledNodes c)) (alike.trans results)
  rw [State.raises_time] at heard
  have told : ((s.linkEvents c).foldl (fun v e => v.raise e s.time) s).AlikeHeard
      ((s.lnk.nodes.zip (s.settledNodes c)).foldl (fun s p => s.healthEvent p.1 p.2) r) := by
    rw [State.linkEvents, List.foldl_append]
    exact heard
  generalize (s.lnk.nodes.zip (s.settledNodes c)).foldl (fun s p => s.healthEvent p.1 p.2) r = t at events told
  have noted (latch : m.trp.latch = true) : m.LatchStands r := by
    rw [frame]
    exact ⟨rfl, List.prefix_refl _, rfl, rfl, rfl, fun _ => rfl⟩
  refine ⟨?_, fun k => ?_, fun latch => ?_, ?_, told⟩
  · rw [events.rest, frame, missing.rest]
  · rw [events.stands k, show r.stand k = m.stand k by rw [frame]; rfl, missing.stands k]
  · have first := missing.latched latch
    have set : m.trp.latch = true := first.latch.trans latch
    have next := noted set
    exact (first.trans next).trans (events.latched (next.latch.trans set))
  · rw [events.present, frame]; exact missing.present

end

end Sys2Proof.Machine


/-! ## What a compute start leaves -/

namespace Sys2Proof.Machine

open Safety

/-! ### The order that waited for it -/

/-- R178, R179: what ORD's work on orders that no owner acts on leaves alone. -/
structure State.OrderDone (s t : State) : Prop where
  rest : t = { s with
    cram := t.cram, hif := t.hif, news := { s.news with order := t.news.order }, irq := t.irq, irqSignals := t.irqSignals
    ord := t.ord, stu := { s.stu with stands := t.stu.stands } }
  use : ∀ k, (t.stand k).use = (s.stand k).use
  low : ∀ a, a < 0x00400 → t.cram.read a = s.cram.read a

section
variable {s t u : State}

theorem State.OrderDone.refl (s : State) : s.OrderDone s := ⟨rfl, fun _ => rfl, fun _ _ => rfl⟩

theorem State.OrderDone.trans (h : s.OrderDone t) (g : t.OrderDone u) : s.OrderDone u :=
  ⟨by rw [g.rest, h.rest], fun k => (g.use k).trans (h.use k), fun a ha => (g.low a ha).trans (h.low a ha)⟩

theorem State.haltedStatus_done (s : State) : s.OrderDone s.haltedStatus := by
  have low (a : Nat) (h : a < 0x00400) : s.haltedStatus.cram.read a = s.cram.read a := s.haltedStatus_read (by omega)
  have frame := s.haltedStatus_eq
  generalize s.haltedStatus = t at frame low
  exact ⟨by rw [frame], fun k => by rw [frame]; rfl, low⟩

theorem slotAnswer_high {i : Fin 32} {a : Nat} (h : a < 0x00400) : ¬ slotAnswer i a := by
  simp only [slotAnswer, slotBase]
  omega

theorem State.finish_done (s : State) (o : OrderOutcome) (rs : List Word) : s.OrderDone (s.finish o rs) := by
  cases ht : s.ord.taken with
  | none => rw [State.finish, ht]; exact .refl s
  | some t =>
    rw [State.finish_taken_eq ht]
    exact ⟨rfl, fun _ => rfl, fun a h => Memory.outcome_read _ _ _ (slotAnswer_high h)⟩

theorem State.takeHead_done (s : State) : s.OrderDone s.takeHead := by
  unfold State.takeHead
  split
  · exact .refl s
  · exact ⟨rfl, fun _ => rfl, fun a h => Memory.taken_read _ (slotAnswer_high h)⟩

theorem settleOrders_done (n : Nat) (s : State) : s.OrderDone (settleOrders n s) := by
  induction n generalizing s with
  | zero => exact .refl s
  | succ n ih =>
    have taken := s.takeHead_done.trans s.takeHead.haltedStatus_done
    unfold settleOrders
    dsimp only
    split
    · exact taken
    · split
      · exact taken
      · exact (taken.trans (State.finish_done _ _ _)).trans (ih _)

theorem State.complete_done (s : State) (o : OrderOutcome) (rs : List Word) : s.OrderDone (s.complete o rs) :=
  (s.finish_done o rs).trans (settleOrders_done _ _)

theorem State.modifyStand_done (s : State) (k : Stand) (f : StandRec → StandRec) (h : ∀ r, (f r).use = r.use) :
    s.OrderDone (s.modifyStand k f) := by
  refine ⟨rfl, fun j => ?_, fun _ _ => rfl⟩
  rw [State.modifyStand_get]
  split
  · exact h _
  · rfl

theorem State.deferredModeOrder_done (s : State) : s.OrderDone s.deferredModeOrder := by
  have mode (a b : Word) : s.OrderDone (s.applySetMode a b).1 := by
    unfold State.applySetMode
    split
    · exact .refl s
    · exact .refl s
    · split
      · exact .refl s
      · split
        · exact .refl s
        · exact s.modifyStand_done _ _ fun _ => rfl
  have trim (a b : Word) : s.OrderDone (s.applyTrim a b).1 := by
    unfold State.applyTrim
    split
    · exact .refl s
    · split
      · exact .refl s
      · exact s.modifyStand_done _ _ fun _ => rfl
  unfold State.deferredModeOrder
  split
  · exact .refl s
  · split
    · exact (mode _ _).trans (State.complete_done _ _ _)
    · exact (trim _ _).trans (State.complete_done _ _ _)
    · exact .refl s

/-! ### The whole work -/

theorem State.entryOf_congr (active : t.stu.active = s.stu.active) (pending : t.stu.pending = s.stu.pending) {k : Stand}
    (use : (t.stand k).use = (s.stand k).use) : t.schedOf k = s.schedOf k ∧ t.entryOf k = s.entryOf k := by
  have sched : t.schedOf k = s.schedOf k := by
    rw [State.schedOf, State.schedOf, use]
    cases (s.stand k).use <;> simp only [State.slotOf, active, pending]
  exact ⟨sched, by rw [State.entryOf, State.entryOf, sched]⟩

/-- R31, R50, R59: a computation of cycle `c` is opened and LNK's work done. -/
def State.linkedIn (s : State) (c : Cycle) : State :=
  let s := (s.openComputation c).linkCompute c
  let out := s.excluded .exitGauge none
  { s with comp := s.comp.map (fun (x : Computation) => { x with gaugeExcluded := out }) }

/-- R85: what the stands' work reads. -/
def State.snaps (s : State) : Table 7 StandSnap := Table.build s.snap

/-- R13 to R19, R57, R101, R102, R120 to R128: the stands' work and the detections, `l` being the state with LNK's work
done, before TRK's work; with it which stands' deviation counts were raised. -/
def State.judged (start l : State) : State × Table 7 Bool :=
  allStands.foldl (State.deviationTest l.snaps start.trp.latch) (l.settleStands start l.snaps, Table.fill 7 false)

theorem State.computeStart_eq (s : State) (c : Cycle) : s.computeStart c =
    ((s.deferredModeOrder.judged (s.deferredModeOrder.linkedIn c)).1.track (s.deferredModeOrder.linkedIn c).snaps
      (stripDropped (s.deferredModeOrder.nodeFor .exitGauge none)
        (((s.deferredModeOrder.openComputation c).linkCompute c).nodeFor .exitGauge none))).closeWork
      (s.deferredModeOrder.linkedIn c).snaps
      (Table.build (lawInput s.deferredModeOrder (s.deferredModeOrder.judged (s.deferredModeOrder.linkedIn c)).1
        (s.deferredModeOrder.linkedIn c).snaps (s.deferredModeOrder.judged (s.deferredModeOrder.linkedIn c)).2)) := rfl

theorem State.judged_within (start l : State) : l.Within (start.judged l).1 :=
  (l.settleStands_within start l.snaps).trans (State.deviationTests_within _ _ _ (_, _))

/-- R50, R54: what LNK's work leaves, the computation opened. -/
structure State.LinkedIn (s : State) (c : Cycle) (l : State) : Prop where
  rest : l = { s with
    tripOut := l.tripOut
    news := { s.news with
      trip := l.news.trip, counter := l.news.counter, capture := l.news.capture
      node := s.news.node || !(changedNodes s.lnk.nodes (s.settledNodes c)).isEmpty }
    irq := l.irq, irqSignals := l.irqSignals, cram := l.cram
    lnk := { s.lnk with
      runState := l.lnk.runState, nodes := s.settledNodes c
      silence := if (s.settledNodes c).any (fun n => n.result == some true) then 0 else min (s.lnk.silence + 1) 3 }
    stu := { s.stu with stands := l.stu.stands }
    trk := { s.trk with windows := l.trk.windows, tripFlush := l.trk.tripFlush }
    trp := l.trp, tripNumber := l.tripNumber, evc := l.evc, comp := l.comp }
  stands : ∀ k, l.stand k = { s.stand k with requested := (l.stand k).requested }
  latched : s.trp.latch = true → s.LatchStands l
  present : l.trp.present = s.trp.present
  alike : ((s.linkEvents c).foldl (fun v e => v.raise e s.time) s).AlikeHeard l
  comp : ∃ out, l.comp = some { Computation.opened c s.clock s.time (Table.build s.schedOf) with gaugeExcluded := out }

theorem State.linkedIn_leaves (s : State) (c : Cycle) : s.LinkedIn c (s.linkedIn c) := by
  have linked := (s.openComputation c).linkCompute_linked c
  have alike := (State.AlikeHeard.raises (s := s) (t := s.openComputation c) ⟨rfl, rfl, rfl, rfl, rfl⟩ (s.linkEvents c) s.time).trans
    linked.alike
  unfold State.linkedIn
  generalize (s.openComputation c).linkCompute c = l at linked alike
  have comp : l.comp = some (Computation.opened c s.clock s.time (Table.build s.schedOf)) := by rw [linked.rest]; rfl
  refine ⟨?_, linked.stands, fun latch => ?_, linked.present, ⟨alike.evc, alike.trp, alike.runState, alike.cycleNumber, alike.time⟩,
    l.excluded .exitGauge none, ?_⟩
  · rw [linked.rest]
    rfl
  · have stands := linked.latched latch
    exact ⟨stands.trp, stands.list, stands.runState, stands.tripOut, stands.news, stands.requested⟩
  · simp only [comp, Option.map_some]

/-- R28, R31, R50, R54, R84: what a compute start of cycle `c` leaves. -/
structure State.Begun (s : State) (c : Cycle) (t : State) : Prop where
  clock : t.clock = s.clock
  time : t.time = s.time
  linkOut : t.linkOut = s.linkOut
  lnk : t.lnk = { s.lnk with
    runState := t.lnk.runState, nodes := s.settledNodes c
    silence := if (s.settledNodes c).any (fun n => n.result == some true) then 0 else min (s.lnk.silence + 1) 3 }
  news : t.news.node = (s.news.node || !(changedNodes s.lnk.nodes (s.settledNodes c)).isEmpty)
  capture : t.news.capture = (s.deferredModeOrder.linkedIn c).news.capture
  low : ∀ a, a < 0x00400 → t.cram.read a = (s.deferredModeOrder.linkedIn c).cram.read a
  switchCharge : t.stu.switchCharge = 0
  refs : ∀ k, (t.gapStand k).committed = (s.gapStand k).committed ∧ (t.gapStand k).rPrev = (s.gapStand k).rPrev
  comp : ∃ y, t.comp = some y ∧ y.number = c.number ∧ y.cycleAt = c.startAt ∧ y.startTime = s.time ∧
    y.late = c.offsetPassed ∧ y.working = false ∧
    y.endAt = s.clock + (16 + 12 * (allStands.filter s.inService).length + 6 * y.crossings + 40 * y.switches)
  heard : let e := (s.linkEvents c).foldl (fun v e => v.raise e s.time) s
    e.Counts ofTracking t ∧ (e.trp.latch = true → t.trp.latch = true ∧ t.trp.firstOut = e.trp.firstOut)

theorem State.closeWork_comp {s : State} {x : Computation} (h : s.comp = some x) (sn : Table 7 StandSnap)
    (inputs : Table 7 LawInput) : (s.closeWork sn inputs).comp = some { x with
      working := false, switches := x.switches + s.stu.switchCharge, formed := Table.build (s.formStand inputs)
      endAt := s.clock + computeDuration ((allStands.filter (fun k => (sn.get k).entry.isSome)).length) x.crossings
        (x.switches + s.stu.switchCharge) } := by
  simp only [State.closeWork, h, Option.map_some]

theorem State.snaps_entry (s : State) (k : Stand) : (s.snaps.get k).entry = s.entryOf k := by
  simp only [State.snaps, Table.get_build]
  rfl

theorem State.computeStart_begun (s : State) (c : Cycle) : s.Begun c (s.computeStart c) := by
  have done := s.deferredModeOrder_done
  rw [State.computeStart_eq]
  have linked := s.deferredModeOrder.linkedIn_leaves c
  generalize stripDropped _ _ = drop
  generalize hd : s.deferredModeOrder = d at *
  generalize hl : d.linkedIn c = l at *
  have worked := (d.judged_within l).trans (Moves.within ((d.judged l).1.track_moves (G := ofTracking) (.inl rfl) (.inr rfl) l.snaps drop))
  generalize lawInput _ _ _ _ = input
  generalize (d.judged l).1.track l.snaps drop = w at *
  obtain ⟨out, opened⟩ := linked.comp
  obtain ⟨y, computing, same⟩ := worked.comp _ opened
  have nodes : d.settledNodes c = s.settledNodes c := by rw [done.rest]; rfl
  have lnk : d.lnk = s.lnk := by rw [done.rest]
  have entries (k : Stand) : (l.snaps.get k).entry.isSome = s.inService k := by
    rw [State.snaps_entry]
    have first := (State.entryOf_congr (s := d) (t := l) (by rw [linked.rest]) (by rw [linked.rest]) (k := k)
      (by rw [linked.stands k])).2
    have next := (State.entryOf_congr (s := s) (t := d) (by rw [done.rest]) (by rw [done.rest]) (done.use k)).2
    rw [first, next]; rfl
  have frame : w.closeWork l.snaps (Table.build input) = { w with
      comp := (w.closeWork l.snaps (Table.build input)).comp, stu := { w.stu with switchCharge := 0 } } := rfl
  have closed := State.closeWork_comp computing l.snaps (Table.build input)
  generalize w.closeWork l.snaps (Table.build input) = t at frame closed
  constructor
  case clock => rw [frame, worked.rest, linked.rest, done.rest]
  case time => rw [frame, worked.rest, linked.rest, done.rest]
  case linkOut => rw [frame, worked.rest, linked.rest, done.rest]
  case lnk => rw [frame, worked.rest, linked.rest, nodes, lnk]
  case news => rw [frame, worked.rest, linked.rest, nodes, lnk, done.rest]
  case capture => rw [hd, hl, frame, worked.rest]
  case low => intro a ha; rw [hd, hl, frame]; exact worked.low a ha
  case switchCharge => rw [frame]
  case refs =>
    intro k
    have gap : t.gapStand k = w.gapStand k := by rw [frame]; rfl
    have linkGap : l.gapStand k = s.gapStand k := by rw [linked.rest, done.rest]; rfl
    rw [gap, ← linkGap]
    exact worked.refs k
  case comp =>
    refine ⟨_, closed, ?_, ?_, ?_, ?_, rfl, ?_⟩
    · rw [same]; rfl
    · rw [same]; rfl
    · rw [same]
      show d.time = s.time
      rw [done.rest]
    · rw [same]; rfl
    · have clock : w.clock = s.clock := by rw [worked.rest, linked.rest, done.rest]
      simp only [entries, clock]
      rfl
  case heard =>
    have alike : s.AlikeHeard d := by rw [done.rest]; exact ⟨rfl, rfl, rfl, rfl, rfl⟩
    have events : d.linkEvents c = s.linkEvents c := by rw [State.linkEvents, State.linkEvents, nodes, lnk]
    have time : d.time = s.time := by rw [done.rest]
    have told := linked.alike
    rw [events, time] at told
    have heard := (alike.raises (s.linkEvents c) s.time).trans told
    generalize (s.linkEvents c).foldl (fun v e => v.raise e s.time) s = e at heard
    have counted : l.Counts ofTracking t := worked.counts.trans (.same (by rw [frame]))
    refine ⟨(State.Counts.same heard.evc).trans counted, fun latch => ?_⟩
    obtain ⟨still, first, -⟩ := worked.latched (by rw [heard.trp]; exact latch)
    rw [frame]
    exact ⟨still, by rw [first, heard.trp]⟩

end

end Sys2Proof.Machine


/-! ## The reply deadline -/

namespace Sys2Proof.Machine

open Safety

/-- R28: a compute start that is due waits while a computation is in progress or an earlier cycle waits. -/
theorem State.computeStartDue_busy {s : State} {c : Cycle} (hc : s.lnk.cycle = some c)
    (busy : s.comp ≠ none ∨ s.lnk.waiting ≠ []) :
    s.computeStartDue = { s with lnk := { s.lnk with cycle := some { c with due := true } } } := by
  have test : (s.comp.isNone && s.lnk.waiting.isEmpty && !c.started) = false := by
    rcases busy with busy | busy
    · cases hx : s.comp with
      | none => exact absurd hx busy
      | some x => rfl
    · cases hw : s.lnk.waiting with
      | nil => exact absurd hw busy
      | cons x l => rw [List.isEmpty_cons, Bool.and_false, Bool.false_and]
  rw [State.computeStartDue, hc]
  dsimp only
  rw [if_neg (by rw [test]; exact Bool.false_ne_true)]

/-- R28: the reply deadline while a computation is in progress or an earlier cycle waits. -/
theorem exec_replyDeadline_busy {s : State} (h : Settled s) {c : Cycle} {timing : Timing} (hc : s.lnk.cycle = some c)
    (ht : s.lnk.timing = some timing) (now : c.startAt + timing.rd = s.clock) (due : c.due = false)
    (started : c.started = false) (busy : s.comp ≠ none ∨ s.lnk.waiting ≠ []) :
    exec .replyDeadline s = .next { s with lnk := { s.lnk with cycle := some { c with due := true } } } := by
  rw [exec_replyDeadline h hc ht now due started, State.computeStartDue_busy hc busy]

/-- R28: the reply deadline brings compute start at once. -/
theorem exec_replyDeadline_begins {s : State} (h : Settled s) {c : Cycle} {timing : Timing} (hc : s.lnk.cycle = some c)
    (ht : s.lnk.timing = some timing) (now : c.startAt + timing.rd = s.clock) (due : c.due = false)
    (started : c.started = false) (idle : s.comp = none) (first : s.lnk.waiting = []) :
    exec .replyDeadline s = .next ((s.starting c).computeStart c) :=
  exec_replyDeadline_now h hc ht now due started idle first

/-- Settles O32: what the compute start leaves, the LINK events as LNK's work tells them. -/
theorem replyDeadlineStartsComputation : Obligations.ReplyDeadlineStartsComputation := by
  intro s c timing
  dsimp only
  intro settled hc ht now due started
  refine ⟨exec_replyDeadline_busy settled hc ht now due started, fun idle first => ?_⟩
  have begun := (s.starting c).computeStart_begun c
  have runs := exec_replyDeadline_begins settled hc ht now due started idle first
  generalize ht' : (s.starting c).computeStart c = t at begun runs
  obtain ⟨x, comp, number, cycleAt, startTime, late, working, endAt⟩ := begun.comp
  have alike : s.AlikeHeard (s.starting c) := ⟨rfl, rfl, rfl, rfl, rfl⟩
  have heard := alike.raises (s.linkEvents c) s.time
  obtain ⟨counts, latched⟩ := begun.heard
  refine ⟨t, x, runs, comp, number, cycleAt, startTime, late, working, endAt, ?_, ?_, ?_, begun.switchCharge, begun.clock,
    begun.time, begun.linkOut, begun.news, fun n link => ?_, fun latch => ?_, begun.refs, ht'.symm⟩
  · rw [begun.lnk]; rfl
  · rw [begun.lnk]; rfl
  · rw [begun.lnk]; rfl
  · have evc := congrArg (fun e => e.counters.get n) heard.evc
    change (((s.linkEvents c).foldl (fun v e => v.raise e s.time) s).evc.counters.get n).group = .link at link
    rcases counts.kept n (by
      show ¬ ofTracking (((s.linkEvents c).foldl (fun v e => v.raise e s.time) (s.starting c)).evc.counters.get n).group
      rw [evc, link]
      exact fun h => h.elim nofun nofun) with same | ⟨-, perCoil, cleared⟩
    · exact .inl (same.trans evc)
    · refine .inr ⟨?_, cleared.trans ?_⟩
      · exact (congrArg Counter.perCoil evc).symm.trans perCoil
      · exact congrArg (fun o : Counter => { o with value := 0 }) evc
  · obtain ⟨still, first⟩ := latched ((congrArg Trp.latch heard.trp).trans latch)
    exact ⟨still, first.trans (congrArg Trp.firstOut heard.trp)⟩

end Sys2Proof.Machine


/-! ## Arrivals -/

namespace Sys2Proof.Machine

open Safety

/-! ### The judgement of a frame -/

/-- R22: a cycle start due now leaves no reset behind and begins none. -/
theorem State.intoCycle_resetting (s : State) : s.intoCycle.resetting.isSome = s.resetting.isSome := by
  unfold State.intoCycle
  split
  · exact Acts.keeps (P := fun v => v.resetting = s.resetting.isSome) (fun v w act h => by cases act <;> exact h)
      s.cycleStartEvent_does rfl
  · rfl

/-- R26: an arrival with no reset in progress. -/
theorem exec_reply {dt : Nat} {bs : List Byte} {s : State} (awake : (s.elapse dt).intoCycle.resetting = none) :
    exec (.reply dt bs) s = .next ((s.elapse dt).intoCycle.replyEvent bs) := by
  have none : (s.elapse dt).resetting.isSome = false := by rw [← State.intoCycle_resetting, awake]; rfl
  show Host.Outcome.next ((s.elapse dt).receive bs) = _
  rw [State.receive, if_neg (by rw [none]; exact Bool.false_ne_true)]

theorem Role.replyLength_ge (r : Role) : 3 ≤ r.replyLength := by cases r <;> decide

theorem State.nodeAt_address {s : State} {a : Byte} {n : Node} (h : s.nodeAt a = some n) : n.address = a := by
  simpa using List.find?_some h

theorem Cycle.seen_iff (c : Cycle) (a : Byte) : c.seen a = true ↔
    ∃ x ∈ c.charges, x.address = a ∧ (x.verdict = .form ∨ x.verdict = .good ∨ x.verdict = .duplicate) := by
  simp [Cycle.seen, or_assoc]

/-- R26: a frame of fewer than three octets. -/
theorem State.judge_short (s : State) (c : Cycle) {bs : List Byte} (h : bs.length < 3) : s.judge c bs = (.crc, none) := if_pos h

section
variable {s : State} {c : Cycle} {bs : List Byte}

theorem State.judge_crc (long : 3 ≤ bs.length) (h : crcOk bs = false) : s.judge c bs = (.crc, s.nodeAt (bs.getD 1 0)) := by
  rw [State.judge, if_neg (Nat.not_lt.mpr long)]
  dsimp only
  rw [h]

theorem State.judge_unknown (long : 3 ≤ bs.length) (h : crcOk bs = true) (absent : s.nodeAt (bs.getD 1 0) = none) :
    s.judge c bs = (.unknown, none) := by
  rw [State.judge, if_neg (Nat.not_lt.mpr long)]
  dsimp only
  rw [h, absent]

theorem State.judge_node {n : Node} (long : 3 ≤ bs.length) (h : crcOk bs = true) (node : s.nodeAt (bs.getD 1 0) = some n) :
    s.judge c bs = if c.started then (.late, some n)
      else if c.seen (bs.getD 1 0) then (.duplicate, some n)
      else if bs.getD 0 0 != 0x52 || bs.length != n.role.replyLength then (.form, some n)
      else (.good, some n) := by
  rw [State.judge, if_neg (Nat.not_lt.mpr long)]
  dsimp only
  rw [h, node]

end

/-! ### Its charge and its place in the log -/

/-- R27: what a verdict charges in a cycle. -/
def Cycle.chargedBy (c : Cycle) (v : Verdict) (node : Option Node) (offset : Nat) (bs : List Byte) : List Charge :=
  if c.started then []
  else node.toList.map (fun n => ⟨n.address, v, offset, if v = .good then some (parseReply n.role bs) else none⟩)

theorem Cycle.charge_eq (c : Cycle) (v : Verdict) (node : Option Node) (offset : Nat) (bs : List Byte) :
    c.charge v node offset bs = { c with charges := c.charges ++ c.chargedBy v node offset bs } := by
  cases node with
  | none => simp [Cycle.charge, Cycle.chargedBy]
  | some n =>
    by_cases started : c.started = true
    · rw [Cycle.chargedBy, if_pos started, List.append_nil, Cycle.charge, if_pos started]
    · rw [Cycle.chargedBy, if_neg started, Cycle.charge, if_neg started]; rfl

theorem Cycle.logArrival_eq (c : Cycle) (a : Byte) (v : Verdict) (offset : Nat) : c.logArrival a v offset = { c with
    log := if c.log.length < 32 then c.log ++ [⟨a, v, offset⟩] else c.log
    overflow := c.overflow || decide (32 ≤ c.log.length) } := by
  rw [Cycle.logArrival]
  by_cases room : c.log.length < 32
  · have fits : decide (32 ≤ c.log.length) = false := decide_eq_false (Nat.not_le.mpr room)
    rw [if_pos (show c.log.length < Config.logSize from room), if_pos room, fits, Bool.or_false]
  · have full : decide (32 ≤ c.log.length) = true := decide_eq_true (Nat.not_lt.mp room)
    rw [if_neg (show ¬ c.log.length < Config.logSize from room), if_neg room, full, Bool.or_true]

/-- R26, R27, R35: the cycle with an arrival charged and logged. -/
def Cycle.arrived (c : Cycle) (shown : Byte) (v : Verdict) (node : Option Node) (offset : Nat) (bs : List Byte) : Cycle :=
  { c with
    charges := c.charges ++ c.chargedBy v node offset bs
    log := if c.log.length < 32 then c.log ++ [⟨shown, v, offset⟩] else c.log
    overflow := c.overflow || decide (32 ≤ c.log.length) }

theorem Cycle.arrived_eq (c : Cycle) (shown : Byte) (v : Verdict) (node : Option Node) (offset : Nat) (bs : List Byte) :
    (c.charge v node offset bs).logArrival shown v offset = c.arrived shown v node offset bs := by
  rw [Cycle.charge_eq, Cycle.logArrival_eq]
  rfl

theorem Cycle.complete_iff (c : Cycle) : c.complete = true ↔
    ∀ a ∈ c.awaited, ∃ x ∈ c.charges, x.address = a ∧ x.verdict = .good := by
  simp [Cycle.complete]

/-- R26: what an arrival does. -/
theorem State.replyEvent_eq {s : State} {c : Cycle} (hc : s.lnk.cycle = some c) {bs : List Byte} {v : Verdict}
    {node : Option Node} (judged : s.judge c bs = (v, node)) : s.replyEvent bs =
      let c' := c.arrived (s.receivedAddress bs) v node (s.clock - c.startAt) bs
      let x := if bs.length < 3 then s.useFree else s
      let r := (State.afterVerdict { x with lnk := { x.lnk with cycle := some c' } } node v c.number
        (s.clock - c.startAt)).settleTrip
      if (v == .good && node.any (fun n => c'.awaited.contains n.address) && c'.complete) = true then r.computeStartDue
      else r := by
  simp only [State.replyEvent, hc, State.arrive, judged, Cycle.arrived_eq]

/-- Settles O30: the verdict is GOOD, so nothing follows but the compute start it may complete. -/
theorem goodReplyIsChargedAndLogged : Obligations.GoodReplyIsChargedAndLogged := by
  intro dt bs s c n
  dsimp only
  intro awake owes hc started node crc octet length fresh
  have runs := exec_reply (bs := bs) awake
  generalize (s.elapse dt).intoCycle = u at *
  have long : 3 ≤ bs.length := length ▸ n.role.replyLength_ge
  have address : n.address = bs.getD 1 0 := State.nodeAt_address node
  have unseen : c.seen (bs.getD 1 0) = false := Bool.eq_false_iff.mpr fun seen => by
    obtain ⟨x, hx, ha, hv⟩ := (c.seen_iff _).mp seen
    obtain ⟨form, good, duplicate⟩ := fresh x hx (ha.trans address.symm)
    exact hv.elim form fun hv => hv.elim good duplicate
  have judged : u.judge c bs = (.good, some n) := by
    rw [State.judge_node long crc node, started, unseen, octet, length]
    simp
  have received : u.receivedAddress bs = n.address := by
    rw [State.receivedAddress, if_neg (Nat.not_lt.mpr long), address]
  have event := State.replyEvent_eq hc judged
  dsimp only at event
  have arrived : c.arrived n.address .good (some n) (u.clock - c.startAt) bs = { c with
      charges := c.charges ++ [⟨n.address, .good, u.clock - c.startAt, some (parseReply n.role bs)⟩]
      log := if c.log.length < 32 then c.log ++ [⟨n.address, .good, u.clock - c.startAt⟩] else c.log
      overflow := c.overflow || decide (32 ≤ c.log.length) } := by
    rw [Cycle.arrived, Cycle.chargedBy, started]; rfl
  have settles (d : Cycle) : (State.afterVerdict { u with lnk := { u.lnk with cycle := some d } } (some n) .good c.number
      (u.clock - c.startAt)).settleTrip = { u with lnk := { u.lnk with cycle := some d } } :=
    State.settleTrip_of_flushLaw owes
  rw [if_neg (Nat.not_lt.mpr long), received, settles] at event
  have facts : (c.arrived n.address .good (some n) (u.clock - c.startAt) bs).awaited = c.awaited ∧
      (c.arrived n.address .good (some n) (u.clock - c.startAt) bs).charges =
        c.charges ++ [⟨n.address, .good, u.clock - c.startAt, some (parseReply n.role bs)⟩] ∧
      (c.arrived n.address .good (some n) (u.clock - c.startAt) bs).started = false ∧
      (c.arrived n.address .good (some n) (u.clock - c.startAt) bs).number = c.number ∧
      (c.arrived n.address .good (some n) (u.clock - c.startAt) bs).startAt = c.startAt := by
    rw [arrived]; exact ⟨rfl, rfl, started, rfl, rfl⟩
  rw [runs, event]
  rw [← arrived]
  generalize c.arrived n.address .good (some n) (u.clock - c.startAt) bs = c' at facts arrived ⊢
  obtain ⟨awaited, charges, unstarted, number, startAt⟩ := facts
  rw [← charges, ← awaited]
  refine ⟨fun ⟨a, ha, lacks⟩ => ?_, fun mine all => ?_⟩
  · have incomplete : c'.complete = false := Bool.eq_false_iff.mpr fun full => by
      obtain ⟨x, hx, same, good⟩ := c'.complete_iff.mp full a ha
      exact lacks x hx same good
    rw [incomplete, Bool.and_false, if_neg Bool.false_ne_true]
  · have last : (Verdict.good == .good && (some n).any (fun n => c'.awaited.contains n.address) && c'.complete) = true := by
      rw [c'.complete_iff.mpr all]
      simpa using mine
    rw [if_pos last]
    refine ⟨fun busy => ?_, fun idle first => ?_⟩
    · rw [State.computeStartDue_busy (s := { u with lnk := { u.lnk with cycle := some c' } }) rfl busy, arrived]
    · have starts := State.computeStartDue_now (s := { u with lnk := { u.lnk with cycle := some c' } }) rfl unstarted idle first
      have begun := (State.starting u c').computeStart_begun { c' with due := true }
      rw [show State.starting { u with lnk := { u.lnk with cycle := some c' } } c' = u.starting c' from rfl] at starts
      obtain ⟨x, comp, hnumber, cycleAt, startTime, -⟩ := begun.comp
      have lnk := begun.lnk
      rw [starts]
      generalize (u.starting c').computeStart _ = t at comp lnk ⊢
      refine ⟨t, x, rfl, comp, hnumber.trans number, cycleAt.trans startAt, startTime, ?_⟩
      rw [lnk, State.starting, arrived]

end Sys2Proof.Machine


/-! ## Bad verdicts and their capture -/

namespace Sys2Proof.Machine

open Safety

/-! ### The capture area -/

/-- R37, 11.5: the words of a capture. -/
def captureWords (address : Byte) (v : Verdict) (number : Half) (offset : Nat) : List Word :=
  [armHeld, natWord address.toNat, natWord v.code, natWord number.toNat, natWord offset]

/-- R37: what a capture changes. -/
structure State.Captured (s : State) (ws : List Word) (t : State) : Prop where
  rest : t = { s with
    cram := t.cram, news := { s.news with capture := true }, irq := t.irq, irqSignals := t.irqSignals }
  words : t.cram.readWords 0x00100 5 = ws
  outside : ∀ x, x < 0x00100 ∨ 0x00114 ≤ x → t.cram.read x = s.cram.read x

theorem State.captureVerdict_armed {s : State} (armed : s.armWord = armArmed) (a : Byte) (v : Verdict) (number : Half)
    (offset : Nat) : s.Captured (captureWords a v number offset) (s.captureVerdict a v number offset) := by
  rw [State.captureVerdict, if_pos armed]
  refine ⟨rfl, ?_, fun x hx => ?_⟩
  · show ((s.cram.writeWords 0x00104 _).writeWord 0x00100 armHeld).readWords 0x00100 5 = _
    have tail (m : Memory) : (m.writeWord 0x00100 armHeld).readWords (0x00100 + 4) 4 = m.readWords 0x00104 4 :=
      Memory.readWords_congr fun i _ => Memory.readWord_write_outside _ _ _ _ (.inr (by rw [wordBytes_length]; omega))
    rw [Memory.readWords, Memory.readWord_writeWord, tail]
    exact congrArg (armHeld :: ·) (Memory.readWords_writeWords s.cram 0x00104 _)
  · show ((s.cram.writeWords 0x00104 _).writeWord 0x00100 armHeld).read x = _
    rw [Memory.writeWord, Memory.read_write_outside _ _ _ _ (by rw [wordBytes_length]; omega), Memory.writeWords,
      Memory.read_write_outside _ _ _ _ (by rw [words_length]; simp only [List.length_cons, List.length_nil]; omega)]

theorem State.captureVerdict_held {s : State} (held : s.armWord ≠ armArmed) (a : Byte) (v : Verdict) (number : Half)
    (offset : Nat) : s.captureVerdict a v number offset = s := if_neg held

/-! ### A bad verdict -/

theorem State.afterVerdict_bad {s : State} {v : Verdict} {sub : Subevent} (h : v.sub = some sub) (who : Option Node)
    (number : Half) (offset : Nat) : s.afterVerdict who v number offset =
      (who.elim s (fun n => s.captureVerdict n.address v number offset)).raise ⟨.link, sub, none, who.bind (·.stand)⟩
        (who.elim s (fun n => s.captureVerdict n.address v number offset)).time := by
  cases who <;> simp only [State.afterVerdict, h] <;> rfl

theorem State.captureVerdict_time (s : State) (a : Byte) (v : Verdict) (number : Half) (offset : Nat) :
    (s.captureVerdict a v number offset).time = s.time := (s.captureVerdict_alike a v number offset).time

/-- R26, R35: the state with the cycle of an arrival judged, `free` free values used. -/
def State.arrivedIn (s : State) (c : Cycle) (free : Nat) : State :=
  { s with lnk := { s.lnk with cycle := some c }, freeCount := s.freeCount + free }

/-- R26, R37, R39: an arrival judged bad. -/
theorem State.replyEvent_bad {s : State} {c : Cycle} (hc : s.lnk.cycle = some c) {bs : List Byte} {v : Verdict}
    {sub : Subevent} {shown : Byte} {who : Option Node} {free : Nat} (judged : s.judge c bs = (v, who))
    (hsub : v.sub = some sub) (hshown : s.receivedAddress bs = shown)
    (hfree : (if bs.length < 3 then s.useFree else s) = { s with freeCount := s.freeCount + free }) :
    let u := s.arrivedIn (c.arrived shown v who (s.clock - c.startAt) bs) free
    s.replyEvent bs = ((who.elim u (fun n => u.captureVerdict n.address v c.number (s.clock - c.startAt))).raise
      ⟨.link, sub, none, who.bind (·.stand)⟩ s.time).settleTrip := by
  intro u
  have event := State.replyEvent_eq hc judged
  dsimp only at event
  have bad : (v == Verdict.good) = false := by
    cases v with
    | good => exact nomatch hsub
    | _ => rfl
  rw [hfree, hshown, bad, Bool.false_and, Bool.false_and, if_neg Bool.false_ne_true] at event
  change s.replyEvent bs = (u.afterVerdict who v c.number (s.clock - c.startAt)).settleTrip at event
  have time : (who.elim u (fun n => u.captureVerdict n.address v c.number (s.clock - c.startAt))).time = s.time := by
    cases who with
    | none => rfl
    | some n => exact u.captureVerdict_time _ _ _ _
  rw [event, State.afterVerdict_bad hsub, time]

/-! ### The capture of a missing reply -/

/-- R37: a capture stands in the capture area, so that no other follows it. -/
def State.HoldsCapture (s : State) (a : Byte) (v : Verdict) (number : Half) (offset : Nat) : Prop :=
  s.news.capture = true ∧ s.cram.readWords 0x00100 5 = captureWords a v number offset

section
variable {s t : State} {a : Byte} {v : Verdict} {number : Half} {offset : Nat}

theorem State.HoldsCapture.armWord (h : s.HoldsCapture a v number offset) : s.armWord ≠ armArmed := by
  have held : s.armWord = armHeld := (List.cons.inj h.2).1
  rw [held]
  decide

theorem State.armWord_congr (low : ∀ x, x < 0x00400 → t.cram.read x = s.cram.read x) : t.armWord = s.armWord := by
  show t.cram.readWord 0x00100 = s.cram.readWord 0x00100
  simp only [Memory.readWord]
  rw [low _ (by omega), low _ (by omega), low _ (by omega), low _ (by omega)]

theorem State.HoldsCapture.of_same (h : s.HoldsCapture a v number offset) (news : t.news.capture = s.news.capture)
    (low : ∀ x, x < 0x00400 → t.cram.read x = s.cram.read x) : t.HoldsCapture a v number offset := by
  refine ⟨news.trans h.1, (Memory.readWords_congr fun i hi => ?_).trans h.2⟩
  simp only [Memory.readWord]
  rw [low _ (by omega), low _ (by omega), low _ (by omega), low _ (by omega)]

theorem State.HoldsCapture.raise (h : s.HoldsCapture a v number offset) (e : Event) (time : Word) :
    (s.raise e time).HoldsCapture a v number offset := by
  have moves := s.raise_moves e (G := ofAny) trivial time
  generalize s.raise e time = t at moves ⊢
  have frame := moves.around.rest
  have news : t.news.capture = s.news.capture := by rw [frame]
  exact h.of_same news fun _ => moves.low

theorem State.HoldsCapture.afterVerdict (h : s.HoldsCapture a v number offset) (who : Option Node) (w : Verdict) (m : Half)
    (o : Nat) : (s.afterVerdict who w m o).HoldsCapture a v number offset := by
  cases sub : w.sub with
  | none => simpa only [State.afterVerdict, sub] using h
  | some sub' =>
    rw [State.afterVerdict_bad sub]
    refine State.HoldsCapture.raise ?_ _ _
    cases who with
    | none => exact h
    | some n =>
      show (s.captureVerdict n.address w m o).HoldsCapture a v number offset
      rw [State.captureVerdict_held h.armWord]
      exact h

/-- R37: of the missing replies of a compute start the one at which the arm word still reads ARMED is captured. -/
theorem State.missingVerdicts_captures {c : Cycle} {before after : List Node} {n : Node}
    (nodes : s.lnk.nodes = before ++ n :: after) (missing : (c.chargesOf n).isEmpty = true)
    (others : ∀ m ∈ before, (c.chargesOf m).isEmpty = false) (armed : s.armWord = armArmed) :
    (s.missingVerdicts c).HoldsCapture n.address .missing c.number (s.clock - c.startAt) := by
  have skip (l : List Node) (h : ∀ m ∈ l, (c.chargesOf m).isEmpty = false) : l.foldl (fun s n =>
      if (c.chargesOf n).isEmpty then State.afterVerdict s (some n) .missing c.number (s.clock - c.startAt) else s) s = s := by
    induction l with
    | nil => rfl
    | cons m l ih =>
      rw [List.foldl_cons, h m List.mem_cons_self, if_neg Bool.false_ne_true]
      exact ih fun x hx => h x (List.mem_cons_of_mem m hx)
  have keep (l : List Node) {s : State} {a : Byte} {o : Nat} (h : s.HoldsCapture a .missing c.number o) : (l.foldl (fun s n =>
      if (c.chargesOf n).isEmpty then State.afterVerdict s (some n) .missing c.number (s.clock - c.startAt)
      else s) s).HoldsCapture a .missing c.number o := by
    induction l generalizing s with
    | nil => exact h
    | cons m l ih =>
      refine ih ?_
      dsimp only
      split
      · exact h.afterVerdict _ _ _ _
      · exact h
  rw [State.missingVerdicts, nodes, List.foldl_append, skip before others, List.foldl_cons, if_pos missing]
  refine keep after ?_
  rw [State.afterVerdict_missing]
  have captured := State.captureVerdict_armed armed n.address .missing c.number (s.clock - c.startAt)
  refine State.HoldsCapture.raise ⟨?_, captured.words⟩ _ _
  exact congrArg (fun t : State => t.news.capture) captured.rest

theorem State.HoldsCapture.linkCompute {c : Cycle} (h : (s.missingVerdicts c).HoldsCapture a v number offset) :
    (s.linkCompute c).HoldsCapture a v number offset := by
  rw [State.linkCompute_eq]
  generalize s.missingVerdicts c = m at h ⊢
  have events (pairs : List (Node × Node)) {r : State} (h : r.HoldsCapture a v number offset) :
      (pairs.foldl (fun s p => State.healthEvent s p.1 p.2) r).HoldsCapture a v number offset := by
    induction pairs generalizing r with
    | nil => exact h
    | cons x pairs ih =>
      refine ih ?_
      dsimp only
      rw [State.healthEvent_eq]
      generalize (changedNodes [x.1] [x.2]).filterMap healthEventOf = es
      generalize r.time = time
      induction es generalizing r with
      | nil => exact h
      | cons e es ih =>
        simp only [List.foldl_cons]
        exact ih (h.raise e time)
  generalize m.settledNodes c = new
  generalize (m.lnk.nodes.zip new).any _ = changed
  generalize (if new.any _ then 0 else _) = silence
  have frame := m.resultsIn_frame new silence changed
  generalize m.resultsIn new silence changed = r at frame ⊢
  have news : r.news.capture = m.news.capture := by rw [frame]
  have cram : r.cram = m.cram := by rw [frame]
  exact events _ (h.of_same news fun x _ => by rw [cram])

end

/-- Settles O31: each verdict by the first test of R26 that the frame fails; for MISSING the capture that LNK's work makes
stays to the end of the compute start. -/
theorem badVerdictsAreChargedLoggedAndCaptured : Obligations.BadVerdictsAreChargedLoggedAndCaptured := by
  refine ⟨fun dt bs s => ?_, fun s c timing before after n settled hc ht now due started idle first nodes missing others armed => ?_⟩
  · intro u awake
    have runs := exec_reply (bs := bs) awake
    change exec (.reply dt bs) s = .next (u.replyEvent bs) at runs
    refine ⟨fun hc => ?_, fun c hc => ?_⟩
    · rw [runs, State.replyEvent, hc]
    · intro offset bad a before
      have tells (v : Verdict) (sub : Subevent) (shown : Byte) (who : Option Node) (free : Nat)
          (judged : u.judge c bs = (v, who)) (hsub : v.sub = some sub) (hshown : u.receivedAddress bs = shown)
          (hfree : (if bs.length < 3 then u.useFree else u) = { u with freeCount := u.freeCount + free }) :
          bad v sub (natWord v.code) shown who free := by
        have event := State.replyEvent_bad hc judged hsub hshown hfree
        dsimp only at event
        have charged : c.chargedBy v who (u.clock - c.startAt) bs =
            if c.started then [] else who.toList.map (fun n => ⟨n.address, v, u.clock - c.startAt, none⟩) := by
          have bad : ¬ v = .good := fun h => by rw [h] at hsub; exact nomatch hsub
          rw [Cycle.chargedBy]
          simp only [if_neg bad]
        rw [Cycle.arrived, charged] at event
        refine ⟨_, runs.trans (congrArg _ event), fun h => ?_, fun n hn armed => ?_⟩
        · rcases h with rfl | held
          · rfl
          · cases who with
            | none => rfl
            | some n => exact State.captureVerdict_held (s := State.arrivedIn u _ free) held n.address v c.number (u.clock - c.startAt)
        · subst hn
          have captured := State.captureVerdict_armed
            (s := State.arrivedIn u (c.arrived shown v (some n) (u.clock - c.startAt) bs) free) armed n.address v c.number
            (u.clock - c.startAt)
          rw [Cycle.arrived, charged] at captured
          exact ⟨captured.rest, captured.words, captured.outside⟩
      have long (h : 3 ≤ bs.length) : u.receivedAddress bs = a ∧
          (if bs.length < 3 then u.useFree else u) = { u with freeCount := u.freeCount + 0 } :=
        ⟨if_neg (Nat.not_lt.mpr h), if_neg (Nat.not_lt.mpr h)⟩
      refine ⟨fun short => tells .crc .crc _ none 1 (State.judge_short u c short) rfl (if_pos short) (if_pos short),
        fun h crc absent => tells .crc .crc a none 0 ((State.judge_crc h crc).trans (by rw [absent])) rfl (long h).1 (long h).2,
        fun h crc absent => tells .unknown .unknown a none 0 (State.judge_unknown h crc absent) rfl (long h).1 (long h).2,
        fun n h node => ?_⟩
      have address : n.address = a := State.nodeAt_address node
      have seen : c.seen a = true ↔ before n := by rw [c.seen_iff, ← address]
      refine ⟨fun crc => tells .crc .crc a (some n) 0 ((State.judge_crc h crc).trans (by rw [node])) rfl (long h).1 (long h).2,
        fun crc started => tells .late .late a (some n) 0 ((State.judge_node h crc node).trans (if_pos started)) rfl (long h).1
          (long h).2,
        fun crc started earlier => tells .duplicate .duplicate a (some n) 0 ?_ rfl (long h).1 (long h).2,
        fun crc started fresh wrong => tells .form .form a (some n) 0 ?_ rfl (long h).1 (long h).2⟩
      · rw [State.judge_node h crc node, started, if_neg Bool.false_ne_true, if_pos (seen.mpr earlier)]
      · rw [State.judge_node h crc node, started, if_neg Bool.false_ne_true, if_neg (fun h => fresh (seen.mp h)), if_pos]
        rcases wrong with octet | length
        · rw [bne_iff_ne.mpr octet, Bool.true_or]
        · rw [bne_iff_ne.mpr length, Bool.or_true]
  · have begun := (s.starting c).computeStart_begun c
    have runs := exec_replyDeadline_begins settled hc ht now due started idle first
    have done := (s.starting c).deferredModeOrder_done
    generalize (s.starting c).computeStart c = t at begun runs
    have capture := begun.capture
    have low := begun.low
    generalize (s.starting c).deferredModeOrder = d at *
    have none (m : Node) : (c.chargesOf m).isEmpty = true ↔ ∀ x ∈ c.charges, x.address ≠ m.address := by
      simp [Cycle.chargesOf]
    have held := State.missingVerdicts_captures (s := d.openComputation c) (c := c) (before := before) (after := after) (n := n)
      (by rw [done.rest]; exact nodes) ((none n).mpr missing)
      (fun m hm => by
        obtain ⟨x, hx, same⟩ := others m hm
        exact Bool.eq_false_iff.mpr fun h => (none m).mp h x hx same)
      ((State.armWord_congr done.low).trans armed)
    have clock : (d.openComputation c).clock - c.startAt = timing.rd := by
      have same : (d.openComputation c).clock = s.clock := by rw [done.rest]; rfl
      rw [same, ← now, Nat.add_sub_cancel_left]
    rw [clock] at held
    have opened : (d.linkedIn c).HoldsCapture n.address .missing c.number timing.rd := held.linkCompute
    obtain ⟨noted, words⟩ := opened.of_same capture low
    exact ⟨t, runs, noted, words⟩

end Sys2Proof.Machine


/-! ## Compute end and the command offset -/

namespace Sys2Proof.Machine

open Safety

/-! ### Compute end -/

/-- R96 to R99, R76: results, events and flush of a compute end. -/
def State.closing (s : State) (x : Computation) : State :=
  (allStands.foldl (State.raiseGap x) (s.commitOrDiscard x)).tripFlushNow x.startTime

/-- R31, R32, R183: a compute end before the next computation begins. -/
def State.ended (s : State) (x : Computation) : State :=
  (State.markEnded { s.closing x with comp := none } x).statusWrite

theorem State.computeEndEvent_eq {s : State} {x : Computation} (h : s.comp = some x) :
    s.computeEndEvent = (s.ended x).startNext := by
  simp only [State.computeEndEvent, h]
  rfl

theorem State.raiseGap_moves (x : Computation) (s : State) (k : Stand) : Moves ofAny s (State.raiseGap x s k) :=
  Moves.foldl (f := fun (s : State) sub => s.raise ⟨.gap, sub, (x.formed.get k).zone, some k⟩ x.startTime)
    (fun s _ => s.raise_moves _ trivial _) _ s

theorem State.closing_moves (s : State) (x : Computation) : Moves ofAny (s.commitOrDiscard x) (s.closing x) :=
  (Moves.foldl (State.raiseGap_moves x) allStands _).trans (State.tripFlushNow_moves trivial _ _)

theorem State.ended_comp (s : State) (x : Computation) : (s.ended x).comp = none := rfl

theorem State.ended_clock (s : State) (x : Computation) : (s.ended x).clock = s.clock ∧ (s.ended x).time = s.time := by
  have frame := (s.closing_moves x).around.rest
  unfold State.ended
  generalize s.closing x = t at frame
  rw [frame]
  exact ⟨rfl, rfl⟩

theorem State.ended_lnk (s : State) (x : Computation) : (s.ended x).lnk = { s.lnk with
    runState := (s.closing x).lnk.runState
    cycle := s.lnk.cycle.map (fun c => if c.startAt = x.cycleAt then { c with ended := true } else c) } := by
  have frame := (s.closing_moves x).around.rest
  unfold State.ended
  generalize s.closing x = t at frame
  have lnk : t.lnk = { s.lnk with runState := t.lnk.runState } := by rw [frame]; rfl
  change (State.markEnded { t with comp := none } x).lnk = _
  unfold State.markEnded
  dsimp only
  rw [lnk]

/-! ### The compute start that waits for it -/

section
variable {s : State} {c : Cycle}

theorem State.startNext_none (h : s.lnk.runState = .halted ∨
    (s.lnk.waiting = [] ∧ ∀ c, s.lnk.cycle = some c → c.due = true → c.started = true)) : s.startNext = s := by
  rw [State.startNext]
  split
  · rfl
  · next running =>
    obtain ⟨waiting, started⟩ := h.resolve_left running
    rw [waiting, if_neg (by simp), if_neg]
    simpa [Option.any_eq_true] using started

theorem State.startNext_waiting {rest : List Cycle} (running : s.lnk.runState ≠ .halted) (waiting : s.lnk.waiting = c :: rest) :
    s.startNext = State.computeStart { s with lnk := { s.lnk with waiting := rest } } c := by
  rw [State.startNext, if_neg running, waiting, if_pos (by rfl), State.startWaiting, waiting]

theorem State.startNext_current (running : s.lnk.runState ≠ .halted) (waiting : s.lnk.waiting = [])
    (hc : s.lnk.cycle = some c) (due : c.due = true) (started : c.started = false) :
    s.startNext = State.computeStart { s with lnk := { s.lnk with cycle := some { c with started := true } } } c := by
  rw [State.startNext, if_neg running, waiting, if_neg (by simp), if_pos (by simp [hc, due, started]), State.startCurrent, hc]

/-- R28: what the compute start that waits leaves of the cycle in progress, and of the moment. -/
structure State.NextBegun (s t : State) : Prop where
  clock : t.clock = s.clock
  timing : t.lnk.timing = s.lnk.timing
  cycle : ∀ c, s.lnk.cycle = some c → ∃ d, t.lnk.cycle = some d ∧ d.startAt = c.startAt ∧ d.offsetPassed = c.offsetPassed
  comp : ∀ y, t.comp = some y → s.clock < y.endAt

theorem State.Begun.later {t : State} (h : s.Begun c t) : ∀ y, t.comp = some y → s.clock < y.endAt := fun y hy => by
  obtain ⟨z, hz, -, -, -, -, -, endAt⟩ := h.comp
  obtain rfl := Option.some.inj (hy.symm.trans hz)
  omega

theorem State.startNext_begun (idle : s.comp = none) : s.NextBegun s.startNext := by
  have begins (l : Lnk) (c : Cycle) (timing : l.timing = s.lnk.timing) (cycle : ∀ c, s.lnk.cycle = some c → ∃ d, l.cycle = some d ∧
      d.startAt = c.startAt ∧ d.offsetPassed = c.offsetPassed) : s.NextBegun (State.computeStart { s with lnk := l } c) := by
    have begun := State.computeStart_begun { s with lnk := l } c
    have lnk := begun.lnk
    exact ⟨begun.clock, by rw [lnk]; exact timing, by rw [lnk]; exact cycle, begun.later⟩
  by_cases running : s.lnk.runState = .halted
  · rw [State.startNext_none (.inl running)]
    exact ⟨rfl, rfl, fun c hc => ⟨c, hc, rfl, rfl⟩, fun y hy => nomatch idle.symm.trans hy⟩
  · cases waiting : s.lnk.waiting with
    | cons c rest =>
      rw [State.startNext_waiting running waiting]
      exact begins _ c rfl fun c hc => ⟨c, hc, rfl, rfl⟩
    | nil =>
      by_cases h : ∀ c, s.lnk.cycle = some c → c.due = true → c.started = true
      · rw [State.startNext_none (.inr ⟨waiting, h⟩)]
        exact ⟨rfl, rfl, fun c hc => ⟨c, hc, rfl, rfl⟩, fun y hy => nomatch idle.symm.trans hy⟩
      · push Not at h
        obtain ⟨c, hc, due, started⟩ := h
        rw [State.startNext_current running waiting hc due (Bool.eq_false_iff.mpr started)]
        exact begins _ c rfl fun c' hc' => ⟨_, rfl, by rw [Option.some.inj (hc'.symm.trans hc)]; exact ⟨rfl, rfl⟩⟩

end

/-! ### The command offset -/

/-- R32: T_cmd comes now. -/
theorem exec_commandOffset {s : State} (h : Settled s) {c : Cycle} {timing : Timing} (hc : s.lnk.cycle = some c)
    (ht : s.lnk.timing = some timing) (now : c.startAt + timing.cmd = s.clock) (passed : c.offsetPassed = false) :
    exec .commandOffset s = .next s.commandOffsetEvent :=
  congrArg Host.Outcome.next (State.takeDue_now h (by simp [State.dueAt, State.cycleMoment, hc, ht, passed, now]))

theorem exec_computeEnd {s : State} (h : Settled s) {x : Computation} (hx : s.comp = some x) (now : x.endAt = s.clock) :
    exec .computeEnd s = .next (s.ended x).startNext :=
  (congrArg Host.Outcome.next (State.takeDue_now h (by simp [State.dueAt, hx, now]))).trans
    (congrArg Host.Outcome.next (State.computeEndEvent_eq hx))

/-- R32: no computation of the cycle ends at its T_cmd or before. -/
theorem State.endFirst_none {s : State} (h : ∀ x c, s.comp = some x → s.lnk.cycle = some c → x.cycleAt = c.startAt →
    s.clock < x.endAt) : s.endFirst = s := by
  unfold State.endFirst
  split
  · next x c hx hc => exact if_neg fun ⟨same, before⟩ => Nat.not_lt.mpr before (h x c hx hc same)
  · rfl

theorem State.commandOffsetEvent_eq {s : State} (ends : s.endFirst = s) {c : Cycle} (hc : s.lnk.cycle = some c) :
    s.commandOffsetEvent = { ((s.passOffset c).send (s.setFrame c.number (!c.ended))).recordPrev with
      freeCount := s.freeCount + 7 } := by
  simp only [State.commandOffsetEvent, ends, hc]
  rfl

theorem State.commandOffsetEvent_endFirst {s u : State} (ends : s.endFirst = u) (ended : u.endFirst = u) :
    s.commandOffsetEvent = u.commandOffsetEvent := by
  simp only [State.commandOffsetEvent, ends, ended]

/-! ### The SET frame -/

/-- R32: a compute end leaves no computation that ends at this moment. -/
theorem State.NextBegun.endFirst {s t : State} (h : s.NextBegun t) : t.endFirst = t :=
  State.endFirst_none fun y _ hy _ _ => h.clock ▸ h.comp y hy

/-- 11.7: the TRIP and HELD flags. -/
theorem setFlags (latch held : Bool) : BitVec.ofNat 8 (flagByte latch + 2 * flagByte held) =
    (if latch then (1 : Byte) else 0) + if held then 2 else 0 := by
  cases latch <;> cases held <;> rfl

theorem State.nodeFor_isSome (s : State) (k : Stand) : (s.nodeFor .gap (some k)).isSome =
    s.lnk.nodes.any (fun n => n.role == .gap && n.stand == some k) := by
  rw [State.nodeFor, List.isSome_find?]

/-- R34: a reference within the limits of a stand. -/
theorem rangeClamp_cases (e : StandEntry) (r : Int) :
    ((e.sMin : Int) ≤ r → r ≤ e.sMax → rangeClamp e r = r) ∧ (r < e.sMin → rangeClamp e r = e.sMin) ∧
      ((e.sMin : Int) ≤ e.sMax → (e.sMax : Int) < r → rangeClamp e r = e.sMax) ∧
      ((e.sMin : Int) ≤ e.sMax → (e.sMin : Int) ≤ rangeClamp e r ∧ rangeClamp e r ≤ e.sMax) := by
  simp only [rangeClamp, clampInt]
  grind

/-- R100: what R_prev records is the reference sent. -/
theorem recordedPrev_eq (hasNode : Bool) (entry : Option Ref) : recordedPrev hasNode entry =
    if hasNode then entry.bind (fun r => match r with | .um v => some v | .openFull => none) else none := by
  rcases entry with _ | _ | _ <;> cases hasNode <;> rfl

/-- R32: the passing of T_cmd changes no entry. -/
theorem State.passOffset_setEntryOf (s : State) (c : Cycle) (k : Stand) : (s.passOffset c).setEntryOf k = s.setEntryOf k := by
  have sched : (s.passOffset c).schedSent k = s.schedSent k := by
    unfold State.schedSent State.passOffset
    cases s.comp with
    | none => rfl
    | some x => by_cases same : x.cycleAt = c.startAt <;> simp only [Option.map_some, same, if_true, if_false] <;> rfl
  rw [State.setEntryOf, sched]
  rfl

/-- R33: the entries of the GAP nodes, each of a stand. -/
theorem setEntries_eq (entry : Stand → Option Ref) (gaps : List Node) (h : ∀ n ∈ gaps, n.stand.isSome = true) :
    gaps.flatMap (fun n => n.address :: (n.stand.map (fun k => wordBytes (setValue (entry k)))).getD []) =
      gaps.flatMap (fun n => n.address :: wordBytes (setValue (entry (n.stand.getD 0)))) := by
  refine List.flatMap_congr fun n hn => ?_
  obtain ⟨k, hk⟩ := Option.isSome_iff_exists.mp (h n hn)
  rw [hk]
  rfl

/-- R33: the entry of a stand in service, by the latch, the run state and the reference committed. -/
theorem setEntry_inService (now : RunState) (latch : Bool) (c : Schedule) (e : StandEntry) (k : Stand) (committed : Option Ref)
    (free : Int) :
    (latch = true → setEntry now latch (some c) (some e) k committed free = some (.um e.sOpen)) ∧
    (latch = false → now ≠ .run → setEntry now latch (some c) (some e) k committed free = none) ∧
    (latch = false → now = .run →
      (committed = none → setEntry now latch (some c) (some e) k committed free = some (.um e.sOpen)) ∧
      (∀ r, committed = some (.um r) → setEntry now latch (some c) (some e) k committed free = some (clampedRef e r)) ∧
      (committed = some .openFull → setEntry now latch (some c) (some e) k committed free = some (clampedRef e free))) := by
  refine ⟨fun h => ?_, fun h stopped => ?_, fun h runs => ?_⟩
  · rw [h]; rfl
  · simp only [setEntry, h, Bool.false_eq_true, if_false, if_pos stopped]
  · simp +contextual only [setEntry, h, runs, Bool.false_eq_true, if_false, ne_eq, not_true_eq_false, implies_true, and_self]

/-- Settles O36: a computation that ends at T_cmd ends first; then the frame is that of the entries as they stand. -/
theorem commandOffsetSendsTheSetFrame : Obligations.CommandOffsetSendsTheSetFrame := by
  intro s c timing gaps trip held hasGap sched sent settled hc ht now passed
  refine ⟨fun x hx ofCycle ends => ?_, fun later stands => ?_⟩
  · have next := (s.ended x).startNext_begun (s.ended_comp x)
    refine ⟨_, exec_computeEnd settled hx ends, fun again => ?_⟩
    have endsFirst : s.endFirst = (s.ended x).startNext := by
      rw [State.endFirst, hx, hc]
      exact (if_pos ⟨ofCycle, ends.le⟩).trans (State.computeEndEvent_eq hx)
    have clock := next.clock.trans (s.ended_clock x).1
    have lnk := s.ended_lnk x
    have timing' := next.timing
    generalize (s.ended x).startNext = u at *
    obtain ⟨d, hd, startAt, offset⟩ := next.cycle { c with ended := true } (by
      rw [lnk, hc]
      exact congrArg some (if_pos ofCycle.symm))
    rw [exec_commandOffset settled hc ht now passed, exec_commandOffset again hd (timing'.trans (by rw [lnk]; exact ht))
      (by rw [startAt, clock]; exact now) (offset.trans passed), State.commandOffsetEvent_endFirst endsFirst next.endFirst]
  · have runs := exec_commandOffset settled hc ht now passed
    rw [State.commandOffsetEvent_eq (State.endFirst_none fun x c' hx hc' same => by
      obtain rfl := Option.some.inj (hc'.symm.trans hc)
      exact later x hx same) hc] at runs
    refine ⟨_, s.setEntryOf, runs, ?_, fun k => ?_, fun k => ?_, rfl⟩
    · show s.linkOut ++ [s.setFrame c.number (!c.ended)] = _
      rw [State.setFrame, setEntries_eq s.setEntryOf _ (fun n hn => by
        obtain ⟨mem, gap⟩ := List.mem_filter.mp hn
        exact stands n mem (beq_iff_eq.mp gap)), setFlags]
      congr 8
      by_cases ready : s.lnk.runState = .ready <;> cases c.ended <;> simp [ready]
    · have uses : sched k = s.schedSent k := by
        unfold State.schedSent
        cases hx : s.comp <;> simp only [sched, hx]
      intro e
      have entry : s.setEntryOf k = setEntry s.lnk.runState s.trp.latch (sched k) e k (s.gapStand k).committed
          (Config.openFullReference (s.freeCount + k.val)) := by rw [State.setEntryOf, ← uses]
      rw [entry]
      refine ⟨fun none => ?_, fun some out => ?_, fun e' service => ?_⟩
      · rw [none]; rfl
      · obtain ⟨C, hC⟩ := Option.ne_none_iff_exists'.mp some
        rw [hC, out]
        obtain ⟨low, high⟩ := clampInt_bounds (Config.dummiedOpen C.serial (standNumber k)) (show (0 : Int) ≤ 99999 by decide)
        exact ⟨_, low, high, rfl⟩
      · obtain ⟨C, hC, -⟩ := Option.bind_eq_some_iff.mp service
        rw [hC, service]
        obtain ⟨tripped, stopped, runs⟩ := setEntry_inService s.lnk.runState s.trp.latch C e' k (s.gapStand k).committed
          (Config.openFullReference (s.freeCount + k.val))
        refine ⟨tripped, stopped, fun clear run fresh => ?_, fun clear run full order => ?_, fun clear run r committed => ?_⟩
        · exact (runs clear run).1 fresh
        · rw [(runs clear run).2.2 full]
          obtain ⟨low, high⟩ := clampInt_bounds (Config.openFullReference (s.freeCount + k.val)) order
          exact ⟨_, low, high, rfl⟩
        · rw [(runs clear run).2.1 r committed]
          obtain ⟨inside, below, above, -⟩ := rangeClamp_cases e' r
          exact ⟨fun low high => congrArg (fun v => some (Ref.um v)) (inside low high),
            fun low => congrArg (fun v => some (Ref.um v)) (below low),
            fun order high => congrArg (fun v => some (Ref.um v)) (above order high)⟩
    · show (Table.build _).get k = _
      have same (frame : List Byte) : State.setEntryOf ((s.passOffset c).send frame) k = s.setEntryOf k :=
        s.passOffset_setEntryOf c k
      rw [Table.get_build, recordedPrev_eq, State.nodeFor_isSome, same]
      rfl

end Sys2Proof.Machine


/-! ## Removals (R68, R108) -/

namespace Sys2Proof.Machine

open Safety

/-! ### What the blocks leave alone -/

/-- R9 to R11: what the switch test changes. -/
theorem State.switchTest_frame (s : State) : s.switchTest = { s with
    stu := s.switchTest.stu
    gap := { s.gap with stands := s.switchTest.gap.stands, mi := s.switchTest.gap.mi, figures := s.switchTest.gap.figures }
    comp := s.switchTest.comp
    news := { s.news with coil := s.switchTest.news.coil }
    irq := s.switchTest.irq, irqSignals := s.switchTest.irqSignals } := by
  cases hp : s.stu.pending with
  | none => rw [State.switchTest_none hp]
  | some p =>
    obtain ⟨u, switched, eq⟩ := State.switchTest_eq hp
    have frame := switched.frame
    rw [eq]
    split
    · have changed := u.completeChange_eq p
      generalize u.completeChange p = t at changed ⊢
      rw [changed, frame]
    · rw [frame]

theorem State.search_frame (s : State) : s.search = { s with cram := s.search.cram, rpt := s.search.rpt } := by
  unfold State.search
  split <;> rfl

/-- R160 to R165: what a report changes. -/
theorem State.report_frame (s : State) (g : Segment) (a : Assessment) (e : Bool) (time : Word) :
    s.report g a e time = { s with
      cram := (s.report g a e time).cram, rpt := (s.report g a e time).rpt
      news := { s.news with page := (s.report g a e time).news.page }
      irq := (s.report g a e time).irq, irqSignals := (s.report g a e time).irqSignals } := by
  have close (x : State) : x.closeCurrent = { x with
      cram := x.closeCurrent.cram, rpt := x.closeCurrent.rpt, news := { x.news with page := x.closeCurrent.news.page }
      irq := x.closeCurrent.irq, irqSignals := x.closeCurrent.irqSignals } := by
    have searched := (State.notePage (x.putWord (pageBase x.rpt.current) pageFull)).search_frame
    unfold State.closeCurrent
    generalize (State.notePage (x.putWord (pageBase x.rpt.current) pageFull)).search = t at searched ⊢
    rw [searched]
    rfl
  have write (x : State) : x.writeReport g a time = { x with
      cram := (x.writeReport g a time).cram, rpt := (x.writeReport g a time).rpt } := by
    unfold State.writeReport
    dsimp only
    split <;> rfl
  have opened : (if s.filling then s else s.search) = { s with
      cram := (if s.filling then s else s.search).cram, rpt := (if s.filling then s else s.search).rpt } := by
    split
    · rfl
    · exact s.search_frame
  unfold State.report
  dsimp only
  generalize (if s.filling then s else s.search) = x at opened ⊢
  split
  · have written := write x
    generalize x.writeReport g a time = y at written ⊢
    split
    · have closed := close y
      generalize y.closeCurrent = z at closed ⊢
      rw [closed, written, opened]
    · rw [written, opened]
  · rw [opened]
    rfl

theorem State.monitor_frame (s : State) (g : Segment) (a : Assessment) (kind : Removal) : s.monitor g a kind = { s with
    gap := { s.gap with mi := (s.monitor g a kind).gap.mi, last := (s.monitor g a kind).gap.last } } := by
  unfold State.monitor
  dsimp only
  split <;> rfl

/-! ### A removal -/

/-- R108: a removal as it stands before the figures of the segment's schedule are looked at. -/
def State.reportedOn (s : State) (rest : List Segment) (g : Segment) (endOfCoil : Bool) (kind : Removal) (time : Word) : State :=
  let s := { s with trk := { s.trk with segs := rest } }
  let a := assess s.gaugeOut (s.figuresFor g.coilId) g
  ((s.monitor g a kind).raise ⟨.segment, segmentSub g a.quality, some g.zone, none⟩ time).report g a endOfCoil time

theorem State.handedOn_eq (s : State) (rest : List Segment) (g : Segment) (e : Bool) (kind : Removal) (time : Word) :
    s.handedOn rest g e kind time = ((s.reportedOn rest g e kind time).dropIfLast g.serial).switchTest := rfl

/-- R108, R114: what stands before the figures of the segment's schedule are looked at. -/
structure State.ReportedOn (s : State) (rest : List Segment) (g : Segment) (kind : Removal) (time : Word) (w : State) : Prop where
  segs : w.trk.segs = rest
  creation : w.trk.creation = s.trk.creation
  state : w.trk.state = s.trk.state
  active : w.stu.active = s.stu.active
  pending : w.stu.pending = s.stu.pending
  figures : w.gap.figures = s.gap.figures
  evc : let a := assess s.gaugeOut (s.figuresFor g.coilId) g
    w.evc = (s.raise ⟨.segment, segmentSub g a.quality, some g.zone, none⟩ time).evc
  counts : w.rpt.reported + w.rpt.lost = s.rpt.reported + s.rpt.lost + 1
  last : let a := assess s.gaugeOut (s.figuresFor g.coilId) g
    ∃ l, w.gap.last = some l ∧ l.id = g.id ∧ l.coilId = g.coilId ∧ l.kind = kind ∧ l.zone = g.zone ∧ l.quality = a.quality ∧
      l.hx = a.hx ∧ l.em = a.em ∧ (g.trip = true → l.applied = false)

theorem State.monitor_last (s : State) (g : Segment) (a : Assessment) (kind : Removal) :
    ∃ l, (s.monitor g a kind).gap.last = some l ∧ l.id = g.id ∧ l.coilId = g.coilId ∧ l.kind = kind ∧ l.zone = g.zone ∧
      l.quality = a.quality ∧ l.hx = a.hx ∧ l.em = a.em ∧ (g.trip = true → l.applied = false) := by
  by_cases refused : s.monitorReason g a kind ≠ .none
  · rw [State.monitor_refused refused]
    exact ⟨_, rfl, rfl, rfl, rfl, rfl, rfl, rfl, rfl, fun _ => rfl⟩
  · have clear : g.trip ≠ true := by
      obtain ⟨-, -, -, -, -, clear, -⟩ := State.monitorReason_eq_none.mp (not_not.mp refused)
      rw [clear]
      exact Bool.false_ne_true
    unfold State.monitor
    dsimp only
    split
    · exact ⟨_, rfl, rfl, rfl, rfl, rfl, rfl, rfl, rfl, fun h => absurd h clear⟩
    · exact ⟨_, rfl, rfl, rfl, rfl, rfl, rfl, rfl, rfl, fun _ => rfl⟩

theorem State.reportedOn_leaves (s : State) (rest : List Segment) (g : Segment) (e : Bool) (kind : Removal) (time : Word) :
    s.ReportedOn rest g kind time (s.reportedOn rest g e kind time) := by
  unfold State.reportedOn
  dsimp only
  have same : ({ s with trk := { s.trk with segs := rest } } : State).gaugeOut = s.gaugeOut := rfl
  rw [same, show ({ s with trk := { s.trk with segs := rest } } : State).figuresFor g.coilId = s.figuresFor g.coilId from rfl]
  generalize ha : assess s.gaugeOut (s.figuresFor g.coilId) g = a
  have monitored := State.monitor_frame { s with trk := { s.trk with segs := rest } } g a kind
  have last := State.monitor_last { s with trk := { s.trk with segs := rest } } g a kind
  generalize State.monitor { s with trk := { s.trk with segs := rest } } g a kind = m at monitored last ⊢
  have alike : s.AlikeHeard m := by rw [monitored]; exact ⟨rfl, rfl, rfl, rfl, rfl⟩
  have evc := (alike.raise ⟨.segment, segmentSub g a.quality, some g.zone, none⟩ time).evc
  have kept := m.raise_kept ⟨.segment, segmentSub g a.quality, some g.zone, none⟩ time
  generalize m.raise _ _ = r at evc kept ⊢
  have reported := r.report_frame g a e time
  have counts := r.report_counts g a e time
  generalize r.report g a e time = w at reported counts ⊢
  have trk : w.trk = r.trk := by rw [reported]
  have stu : w.stu = r.stu := by rw [reported]
  have gap : w.gap = m.gap := by rw [reported]; exact kept.gap
  have rpt : r.rpt = s.rpt := by rw [kept.rpt, monitored]
  rw [rpt] at counts
  have sum : w.rpt.reported + w.rpt.lost = s.rpt.reported + s.rpt.lost + 1 := by
    obtain ⟨reported, lost⟩ | ⟨reported, lost⟩ := counts
    · rw [reported, lost]; bv_omega
    · rw [reported, lost]; bv_omega
  refine ⟨?_, ?_, ?_, ?_, ?_, ?_, ?_, sum, ?_⟩
  · rw [trk, kept.segs, monitored]
  · rw [trk, kept.creation, monitored]
  · rw [trk, kept.track, monitored]
  · rw [stu, kept.active, monitored]
  · rw [stu, kept.pending, monitored]
  · rw [gap, monitored]
  · have same : w.evc = r.evc := by rw [reported]
    dsimp only
    rw [ha, same, evc]
  · dsimp only
    rw [ha, gap]
    exact last

theorem State.switchTest_kept (s : State) : s.switchTest.trk = s.trk ∧ s.switchTest.evc = s.evc ∧
    s.switchTest.rpt = s.rpt ∧ s.switchTest.gap.last = s.gap.last := by
  have frame := s.switchTest_frame
  generalize s.switchTest = t at frame ⊢
  rw [frame]
  exact ⟨rfl, rfl, rfl, rfl⟩

theorem State.dropIfLast_eq (s : State) (serial : Nat) : s.dropIfLast serial = { s with gap := { s.gap with
    figures := if s.carried serial || s.inSlot serial then s.gap.figures
      else s.gap.figures.filter (fun f => f.serial != serial) } } := by
  unfold State.dropIfLast
  split <;> rfl

theorem State.idleIfEmpty_eq (s : State) : s.idleIfEmpty = { s with trk := { s.trk with state :=
    if s.trk.segs = [] ∧ s.trk.creation = none ∧ (s.trk.state = .normal ∨ s.trk.state = .degraded) then .idle
    else s.trk.state } } := by
  rw [← s.idleIfEmpty_state]
  exact s.idleIfEmpty_frame

/-- Settles O47: the removal block by block, its last test TRK's for IDLE. -/
theorem removalGoesToEveryBlock : Obligations.RemovalGoesToEveryBlock := by
  refine ⟨fun s g rest kind trip time last => ?_, fun g q => ⟨fun trip => ?_, fun trip degraded => ?_, fun trip degraded => ?_⟩⟩
  · intro t r a taken w held figures v segs lastOfCoil
    have stamped : g.stamped trip = r := rfl
    have ends : (!(rest.any (fun x => x.coilId == (g.stamped trip).coilId) ||
        s.trk.creation.any (fun c => c.coilId == (g.stamped trip).coilId))) = last := by
      rw [Bool.eq_iff_iff, lastOfCoil]
      show (!(rest.any (fun x => x.coilId == g.coilId) || s.trk.creation.any (fun c => c.coilId == g.coilId))) = true ↔ _
      cases s.trk.creation <;> simp
    have removed : t = (s.handedOn rest r last kind time).idleIfEmpty := by
      rw [← ends]; exact State.removeOldest_eq segs kind trip time
    have facts := s.reportedOn_leaves rest r last kind time
    have isW : s.reportedOn rest r last kind time = w := rfl
    rw [isW] at facts
    have handed : s.handedOn rest r last kind time = v := by
      have carries : (w.carried g.serial || w.inSlot g.serial) = held := by
        rw [State.carried, State.inSlot, facts.segs, facts.creation, facts.active, facts.pending, ← Bool.or_assoc]
      rw [State.handedOn_eq, isW, show r.serial = g.serial from rfl, State.dropIfLast_eq, carries, facts.figures]
    obtain ⟨trk, evc, -, last⟩ := State.switchTest_kept { w with gap := { w.gap with figures := figures } }
    have idle := v.idleIfEmpty_eq
    rw [removed, handed, idle]
    have vSegs : v.trk.segs = rest := (congrArg Trk.segs trk).trans facts.segs
    have vCreation : v.trk.creation = s.trk.creation := (congrArg Trk.creation trk).trans facts.creation
    have vState : v.trk.state = s.trk.state := (congrArg Trk.state trk).trans facts.state
    rw [vSegs, vCreation, vState]
    refine ⟨rfl, rfl, rfl, evc.trans facts.evc, ?_⟩
    obtain ⟨l, hl, id, coil, kind, zone, quality, hx, em, -⟩ := facts.last
    exact ⟨l, last.trans hl, id, coil, kind, zone, quality, hx, em⟩
  · exact if_pos trip
  · simp only [segmentSub, trip, degraded, Bool.false_eq_true, if_false, if_true]
  · simp only [segmentSub, trip, degraded, Bool.false_eq_true, if_false]
    cases q <;> simp

end Sys2Proof.Machine


/-! ## What a compute end leaves -/

namespace Sys2Proof.Machine

open Safety

/-! ### Removals, counted -/

/-- R108, R114: `n` segments reported or lost, the last of them assessed on its removal. -/
structure State.Shed (kind : Removal) (trip : Bool) (n : Nat) (s t : State) : Prop where
  counts : t.rpt.reported + t.rpt.lost = s.rpt.reported + s.rpt.lost + BitVec.ofNat 32 n
  last : n ≠ 0 → ∃ l, t.gap.last = some l ∧ l.kind = kind ∧ (trip = true → l.applied = false)

section
variable {s t u : State} {kind : Removal} {trip : Bool} {m n : Nat}

theorem State.Shed.none (rpt : t.rpt = s.rpt) : s.Shed kind trip 0 t := ⟨by rw [rpt]; simp, fun h => absurd rfl h⟩

/-- The last removals come after the first. -/
theorem State.Shed.next (h : s.Shed kind trip m t) (g : t.Shed kind trip n u) (some : n ≠ 0) : s.Shed kind trip (m + n) u := by
  refine ⟨?_, fun _ => g.last some⟩
  rw [g.counts, h.counts, BitVec.ofNat_add]
  ac_rfl

/-- What touches neither RPT nor GAP's last assessment keeps the count. -/
theorem State.Shed.of_same (h : s.Shed kind trip n t) (rpt : u.rpt = t.rpt) (last : u.gap.last = t.gap.last) :
    s.Shed kind trip n u := ⟨by rw [rpt]; exact h.counts, by rw [last]; exact h.last⟩

theorem State.Shed.after (h : t.Shed kind trip n u) (rpt : t.rpt = s.rpt) : s.Shed kind trip n u :=
  ⟨by rw [← rpt]; exact h.counts, h.last⟩

theorem State.removeOldest_shed {g : Segment} {rest : List Segment} (segs : s.trk.segs = g :: rest) (time : Word) :
    s.Shed kind trip 1 (s.removeOldest kind trip time) := by
  rw [State.removeOldest_eq segs]
  generalize (!(_ || _) : Bool) = e
  have facts := s.reportedOn_leaves rest (g.stamped trip) e kind time
  rw [State.handedOn_eq]
  generalize s.reportedOn rest (g.stamped trip) e kind time = w at facts ⊢
  obtain ⟨-, -, rpt, last⟩ := (w.dropIfLast (g.stamped trip).serial).switchTest_kept
  have removed : s.Shed kind trip 1 w := ⟨facts.counts, fun _ => by
    obtain ⟨l, hl, -, -, hkind, -, -, -, -, applied⟩ := facts.last
    exact ⟨l, hl, hkind, fun h => applied (by rw [Segment.stamped, h]; rfl)⟩⟩
  rw [State.idleIfEmpty_eq]
  refine removed.of_same (rpt.trans ?_) (last.trans ?_)
  · rw [State.dropIfLast_eq]
  · rw [State.dropIfLast_eq]

theorem State.removeMany_shed (time : Word) (n : Nat) (s : State) (h : n ≤ s.trk.segs.length) :
    s.Shed kind trip n (State.removeMany kind trip time n s) := by
  induction n generalizing s with
  | zero => exact .none rfl
  | succ n ih =>
    cases segs : s.trk.segs with
    | nil => rw [segs] at h; exact absurd h (Nat.not_succ_le_zero n)
    | cons g rest =>
      have one := State.removeOldest_shed (kind := kind) (trip := trip) segs time
      have left := (s.removeOldest_popped kind trip time).segs
      have more := ih (s.removeOldest kind trip time) (by rw [left, List.length_tail]; omega)
      cases n with
      | zero => exact one
      | succ n =>
        have both := one.next more (Nat.succ_ne_zero n)
        rw [Nat.add_comm 1 (n + 1)] at both
        exact both

/-- R76: what a flush hands on. -/
theorem State.enterLost_shed (h : s.trk.state ≠ .lost) (time : Word) :
    s.Shed .flush trip s.trk.segs.length (s.enterLost trip time) := by
  have shed := State.removeMany_shed (kind := .flush) (trip := trip) time s.trk.segs.length
    { s with trk := { s.trk with state := .lost } } le_rfl
  have flushed : s.Shed .flush trip s.trk.segs.length (State.clearTracking (State.removeMany .flush trip time s.trk.segs.length
      { s with trk := { s.trk with state := .lost } })) := (shed.of_same (u := State.clearTracking _) rfl rfl).after rfl
  rw [State.enterLost, if_neg h]
  dsimp only
  split
  · exact flushed
  · obtain ⟨-, -, rpt, last⟩ := State.switchTest_kept (State.clearTracking (State.removeMany .flush trip time s.trk.segs.length
      { s with trk := { s.trk with state := .lost } }))
    exact flushed.of_same rpt last

end

/-! ### Events told to EVC -/

/-- R129, R146: what events change while the latch does not change, and what a latching owes. -/
structure State.Tells (s t : State) : Prop where
  quiet : s.trp.latch = true ∨ t.trp.latch = false → t = { s with
    evc := t.evc, trp := t.trp, tripNumber := t.tripNumber, news := t.news, irq := t.irq, irqSignals := t.irqSignals
    cram := t.cram }
  latch : s.trp.latch = true → t.trp.latch = true
  flush : s.trp.latch = false → t.trp.latch = true → t.trk.tripFlush = true
  owed : s.trk.tripFlush = true → t.trk.tripFlush = true

section
variable {s t u : State}

theorem State.Tells.refl (s : State) : s.Tells s :=
  ⟨fun _ => rfl, id, fun clear set => absurd (clear.symm.trans set) Bool.false_ne_true, id⟩

theorem State.Tells.trans (h : s.Tells t) (g : t.Tells u) : s.Tells u where
  quiet same := by
    have first : s.trp.latch = true ∨ t.trp.latch = false := same.imp id fun clear =>
      Bool.eq_false_iff.mpr fun set => absurd (clear.symm.trans (g.latch set)) Bool.false_ne_true
    have next : t.trp.latch = true ∨ u.trp.latch = false := same.imp h.latch id
    rw [g.quiet next, h.quiet first]
  latch := g.latch ∘ h.latch
  flush clear set := by
    cases middle : t.trp.latch with
    | true => exact g.owed (h.flush clear middle)
    | false => exact g.flush middle set
  owed := g.owed ∘ h.owed

theorem State.Tells.foldl {α : Type} {f : State → α → State} (h : ∀ (s : State) a, s.Tells (f s a)) (l : List α) (s : State) :
    s.Tells (l.foldl f s) := by
  induction l generalizing s with
  | nil => exact .refl s
  | cons a l ih => exact (h s a).trans (ih _)

theorem State.detect_tells (s : State) (c : Cause) (time : Word) : s.Tells (s.detect c time) := by
  rw [State.detect]
  cases latch : s.trp.latch with
  | false =>
    rw [State.detectFrom_clear latch]
    exact ⟨fun h => absurd h (by rw [latch]; exact fun h => h.elim Bool.false_ne_true nofun), fun _ => rfl, fun _ _ => rfl, fun _ => rfl⟩
  | true =>
    have trp := (State.detectFrom_trp s s.trp c time rfl).1
    rw [State.detectFrom_set latch] at trp ⊢
    exact ⟨fun _ => rfl, fun _ => trp, fun clear => absurd (latch.symm.trans clear) nofun, id⟩

theorem State.countOne_tells (e : Event) (time : Word) (s : State) (n : Fin 8) : s.Tells (State.countOne e time s n) := by
  have same {u : State} (h : u = { s with evc := u.evc, news := u.news, irq := u.irq, irqSignals := u.irqSignals }) : s.Tells u := by
    rw [h]
    exact ⟨fun _ => rfl, id, fun clear set => absurd (clear.symm.trans set) Bool.false_ne_true, id⟩
  cases passes : (s.evc.counters.get n).passes e with
  | false => rw [State.countOne_blocked passes]; exact .refl s
  | true =>
    rw [State.countOne_passed passes]
    split
    · split
      · exact same rfl
      · exact same rfl
      · exact (same rfl : s.Tells (s.counted n)).trans (State.detect_tells _ _ _)
    · exact same rfl

theorem State.raises_tells (s : State) (es : List Event) (time : Word) :
    s.Tells (es.foldl (fun v e => v.raise e time) s) :=
  State.Tells.foldl (fun _ e => State.Tells.foldl (State.countOne_tells e time) allCounters _) es s

/-! ### Events with another GAP -/

theorem State.setTrp_gap (s : State) (g : Gap) (t : Trp) :
    State.setTrp { s with gap := g } t = { s.setTrp t with gap := g } := by
  unfold State.setTrp
  dsimp only
  split <;> rfl

/-- R129, R132: a counter's detection does the same whatever GAP holds. -/
theorem State.detect_gap (s : State) (g : Gap) (n : Fin 8) (time : Word) :
    State.detect { s with gap := g } (.counter n) time = { s.detect (.counter n) time with gap := g } := by
  unfold State.detect State.detectFrom
  dsimp only
  split
  · exact s.setTrp_gap g _
  · rw [State.setTrp_gap]
    rfl

theorem State.countOne_gap (e : Event) (time : Word) (s : State) (g : Gap) (n : Fin 8) :
    State.countOne e time { s with gap := g } n = { State.countOne e time s n with gap := g } := by
  unfold State.countOne
  dsimp only
  split
  · split
    · split
      · rfl
      · rfl
      · exact State.detect_gap (s.counted n) g n time
    · rfl
  · rfl

theorem State.raise_gap (s : State) (g : Gap) (e : Event) (time : Word) :
    State.raise { s with gap := g } e time = { s.raise e time with gap := g } := by
  unfold State.raise
  generalize allCounters = ns
  induction ns generalizing s with
  | nil => rfl
  | cons n ns ih => rw [List.foldl_cons, List.foldl_cons, State.countOne_gap, ih]

theorem State.raises_gap (s : State) (g : Gap) (es : List Event) (time : Word) :
    es.foldl (fun v e => v.raise e time) { s with gap := g } =
      { es.foldl (fun v e => v.raise e time) s with gap := g } := by
  induction es generalizing s with
  | nil => rfl
  | cons e es ih => simp only [List.foldl_cons]; rw [State.raise_gap, ih]

/-- R99: the GAP events of a computation, stand by stand. -/
def Computation.gapEvents (x : Computation) : List Event :=
  allStands.flatMap (fun k => ((x.formed.get k).subevents x.late).map
    (fun sub => ⟨.gap, sub, (x.formed.get k).zone, some k⟩))

theorem State.raiseGaps_eq (s : State) (x : Computation) : allStands.foldl (State.raiseGap x) s =
    x.gapEvents.foldl (fun v e => v.raise e x.startTime) s := by
  rw [Computation.gapEvents, List.foldl_flatMap]
  simp only [List.foldl_map]
  rfl

end

end Sys2Proof.Machine


/-! ## Compute end -/

namespace Sys2Proof.Machine

open Safety

/-! ### The status header -/

/-- R190: the bytes of a word read. -/
theorem Memory.read_of_readWord {m : Memory} {a : Nat} {w : Word} (h : m.readWord a = w) :
    m.read a = w.extractLsb' 0 8 ∧ m.read (a + 1) = w.extractLsb' 8 8 ∧ m.read (a + 2) = w.extractLsb' 16 8 ∧
      m.read (a + 3) = w.extractLsb' 24 8 := by
  subst h
  refine ⟨?_, ?_, ?_, ?_⟩ <;>
    · refine BitVec.eq_of_getLsbD_eq fun i hi => ?_
      simp only [Memory.readWord, bytesWord, BitVec.getLsbD_append, BitVec.getLsbD_extractLsb', hi, decide_true, Bool.true_and]
      grind

/-- 11.5: run state, latch and cycle number in the header. -/
def runWord (runState : RunState) (latch : Bool) (number : Half) : Word :=
  natWord (runState.code + 256 * flagByte latch + 65536 * number.toNat)

theorem runWord_bytes (runState : RunState) (latch : Bool) (number : Half) :
    (runWord runState latch number).extractLsb' 0 8 = BitVec.ofNat 8 runState.code ∧
      (runWord runState latch number).extractLsb' 8 8 = (if latch then 1 else 0) ∧
      (runWord runState latch number).extractLsb' 16 8 = number.extractLsb' 0 8 ∧
      (runWord runState latch number).extractLsb' 24 8 = number.extractLsb' 8 8 := by
  have small : runState.code ≤ 2 := by cases runState <;> decide
  have flag : flagByte latch ≤ 1 := by cases latch <;> decide
  have wide := number.isLt
  refine ⟨?_, ?_, ?_, ?_⟩ <;> refine BitVec.eq_of_toNat_eq ?_ <;>
    simp only [runWord, natWord, BitVec.extractLsb'_toNat, BitVec.toNat_ofNat, Nat.shiftRight_eq_div_pow]
  · omega
  · have value : (if latch then (1 : Byte) else 0).toNat = flagByte latch := by cases latch <;> rfl
    rw [value]
    omega
  · omega
  · omega

/-- 11.5: the header at the front of the status area. -/
theorem statusWords_header (s : State) (n : Word) : (statusWords s n).getD 2 0 = runWord s.lnk.runState s.trp.latch s.lnk.cycleNumber ∧
    (statusWords s n).getD 11 0 = s.trk.created ∧ (statusWords s n).getD 12 0 = s.rpt.reported ∧
    (statusWords s n).getD 13 0 = s.rpt.lost := by
  have inHeader (i : Nat) (h : i < 32) : (statusWords s n).getD i 0 = (headerWords s n).getD i 0 := by
    simp only [statusWords, List.append_assoc]
    exact List.getD_append _ _ _ _ (by rw [headerWords_length]; exact h)
  rw [inHeader 2 (by decide), inHeader 11 (by decide), inHeader 12 (by decide), inHeader 13 (by decide)]
  cases ha : s.stu.active <;> cases hp : s.stu.pending <;> simp only [headerWords, ha, hp] <;> exact ⟨rfl, rfl, rfl, rfl⟩

/-! ### Results, events and flush -/

/-- R99: the state with the GAP events of a computation told. -/
def State.gapTold (s : State) (x : Computation) : State := x.gapEvents.foldl (fun v e => v.raise e x.startTime) s

/-- R96, R99: results committed or discarded besides. -/
def State.told (s : State) (x : Computation) : State := { s.gapTold x with gap := (s.commitOrDiscard x).gap }

theorem State.closing_eq (s : State) (x : Computation) : s.closing x = (s.told x).tripFlushNow x.startTime := by
  rw [State.closing, State.raiseGaps_eq, State.commitOrDiscard, State.raises_gap]
  rfl

/-- R76, R130: a flush is owed when the computation ends with its events told. -/
theorem State.told_owes (s : State) (x : Computation) : (s.told x).trk.tripFlush = true ↔
    s.trk.tripFlush = true ∨ (s.trp.latch = false ∧ (s.told x).trp.latch = true) := by
  have tells := s.raises_tells x.gapEvents x.startTime
  rw [State.told]
  change s.Tells (s.gapTold x) at tells
  generalize s.gapTold x = e at tells ⊢
  refine ⟨fun flush => ?_, fun owed => owed.elim tells.owed fun h => tells.flush h.1 h.2⟩
  by_contra none
  push Not at none
  obtain ⟨paid, latched⟩ := none
  have quiet := tells.quiet (by
    cases latch : s.trp.latch with
    | true => exact .inl rfl
    | false => exact .inr (Bool.eq_false_iff.mpr (latched latch)))
  have same : e.trk = s.trk := by rw [quiet]
  exact paid (same ▸ flush)

theorem State.tripFlushNow_none {s : State} (h : s.trk.tripFlush = false) (time : Word) : s.tripFlushNow time = s :=
  if_neg (by rw [h]; exact Bool.false_ne_true)

theorem State.tripFlushNow_lost {s : State} (h : s.trk.tripFlush = true) (lost : s.trk.state = .lost) (time : Word) :
    s.tripFlushNow time = { s with trk := { s.trk with tripFlush := false } } := by
  rw [State.tripFlushNow, if_pos h, State.enterLost, if_pos lost]

theorem State.tripFlushNow_flushes {s : State} (h : s.trk.tripFlush = true) (time : Word) :
    s.tripFlushNow time = { s.enterLost true time with trk := { (s.enterLost true time).trk with tripFlush := false } } :=
  if_pos h

/-- R96, R97, R98: GAP's record of a stand. -/
theorem State.told_gapStand (s : State) (x : Computation) (k : Stand) : (s.told x).gapStand k =
    (s.gapStand k).atComputeEnd (x.formed.get k) x.late (s.trp.latch || s.trk.tripFlush) := Table.get_build _ _

/-- R31, R32, R183: what follows. -/
theorem State.ended_frame (s : State) (x : Computation) : s.ended x = { s.closing x with
    comp := none
    lnk := { (s.closing x).lnk with cycle := (s.closing x).lnk.cycle.map (fun c =>
      if c.startAt = x.cycleAt then { c with ended := true } else c) }
    hif := { (s.closing x).hif with statusNumber := (s.closing x).hif.statusNumber + 1 }
    cram := (s.ended x).cram } := rfl

theorem Move.halted {G : EventGroup → Prop} {s t : State} (h : Move G s t) :
    t.lnk.runState = .halted ↔ s.lnk.runState = .halted := by
  cases h with
  | detect c time =>
    rw [State.detect]
    cases latch : s.trp.latch with
    | true => rw [State.detectFrom_set latch]
    | false =>
      rw [State.detectFrom_clear latch]
      show s.lnk.runState.afterTrip = _ ↔ _
      cases s.lnk.runState <;> decide
  | coil id h => unfold State.coilCreated; split <;> rfl
  | switch p k h unused => rw [State.switchOne_eq]
  | _ => rfl

theorem Moves.halted {G : EventGroup → Prop} {s t : State} (h : Moves G s t) :
    t.lnk.runState = .halted ↔ s.lnk.runState = .halted := by
  induction h with
  | refl => rfl
  | tail _ step ih => exact step.halted.trans ih

end Sys2Proof.Machine


/-! ## Compute end, from its moment to the next compute start -/

namespace Sys2Proof.Machine

open Safety

section
variable (s : State) (x : Computation)

theorem State.ended_runState : (s.ended x).lnk.runState = .halted ↔ s.lnk.runState = .halted := by
  rw [s.ended_lnk x]
  exact (s.closing_moves x).halted

/-- R28: what the compute start that waits for a compute end leaves. -/
theorem State.ended_begins (l : Lnk) (c : Cycle) (nodes : l.nodes = s.lnk.nodes) (warn : l.warn = s.lnk.warn)
    {t : State} (ht : State.computeStart { s.ended x with lnk := l } c = t) :
    ∃ y, t.comp = some y ∧ y.number = c.number ∧ y.cycleAt = c.startAt ∧ y.startTime = s.time ∧ y.late = c.offsetPassed ∧
      y.working = false ∧
      y.endAt = s.clock + (16 + 12 * (allStands.filter (s.ended x).inService).length + 6 * y.crossings + 40 * y.switches) ∧
      t.lnk.nodes = s.lnk.nodes.map (fun n => n.atComputeStart s.lnk.warn c.number (c.chargesOf n)) ∧
      t.clock = s.clock ∧ t.time = s.time ∧ t.linkOut = s.linkOut := by
  have begun := State.computeStart_begun { s.ended x with lnk := l } c
  rw [ht] at begun
  obtain ⟨clock, time⟩ := s.ended_clock x
  have linkOut : (s.ended x).linkOut = s.linkOut := by
    have frame := (s.closing_moves x).around.rest
    unfold State.ended
    generalize s.closing x = t at frame
    rw [frame]
    rfl
  obtain ⟨y, comp, number, cycleAt, startTime, late, working, endAt⟩ := begun.comp
  refine ⟨y, comp, number, cycleAt, startTime.trans time, late, working, ?_, ?_, begun.clock.trans clock,
    begun.time.trans time, begun.linkOut.trans linkOut⟩
  · rw [endAt]
    exact congrArg (· + _) clock
  · rw [begun.lnk]
    show l.nodes.map _ = _
    rw [nodes, warn]

/-- R97, R98, R10: GAP's record of a stand after a compute end. -/
theorem State.ended_gapStand (k : Stand) (C : State) (moves : Moves ofFlush (s.told x) C) :
    C.gapStand k = (s.told x).gapStand k ∨
      (s.stu.pending ≠ none ∧ C.gapStand k = ((s.told x).gapStand k).switched) := by
  have pending : (s.told x).stu.pending = s.stu.pending := by
    have heard : s.Hears (s.gapTold x) := s.raises_hears _ _
    have heard := heard.rest
    rw [State.told]
    generalize s.gapTold x = e at heard
    rw [heard]
  rw [← pending]
  exact moves.regapped.gaps k

/-- R183: the status area at a compute end. -/
theorem State.ended_status : (s.ended x).cram.readWords 0x01000 564 = statusWords (s.ended x) (s.ended x).hif.statusNumber :=
  (State.markEnded { s.closing x with comp := none } x).statusWrite_status

theorem State.ended_word {i : Nat} (h : i < 564) : (s.ended x).word (0x01000 + 4 * i) =
    (statusWords (s.ended x) (s.ended x).hif.statusNumber).getD i 0 := by
  rw [← s.ended_status x, Memory.readWords_getD _ _ _ _ h]
  rfl

theorem State.ended_stamps : (s.ended x).word 0x01000 = (s.ended x).hif.statusNumber ∧
    (s.ended x).word 0x01004 = (s.ended x).hif.statusNumber := by
  obtain ⟨ws, equation, -⟩ := statusWords_eq (s.ended x) (s.ended x).hif.statusNumber
  have zero := s.ended_word x (i := 0) (by decide)
  have one := s.ended_word x (i := 1) (by decide)
  rw [equation] at zero one
  exact ⟨zero, one⟩

/-- 11.5: what the header shows. -/
theorem State.ended_header : let u := s.ended x
    u.cram.read 0x01008 = BitVec.ofNat 8 u.lnk.runState.code ∧ u.cram.read 0x01009 = (if u.trp.latch then 1 else 0) ∧
    u.cram.read 0x0100A = u.lnk.cycleNumber.extractLsb' 0 8 ∧ u.cram.read 0x0100B = u.lnk.cycleNumber.extractLsb' 8 8 ∧
    u.word 0x0102C = u.trk.created ∧ u.word 0x01030 = u.rpt.reported ∧ u.word 0x01034 = u.rpt.lost := by
  intro u
  obtain ⟨running, created, reported, lost⟩ := statusWords_header u u.hif.statusNumber
  obtain ⟨code, latch, low, high⟩ := Memory.read_of_readWord ((s.ended_word x (i := 2) (by decide)).trans running)
  obtain ⟨code', latch', low', high'⟩ := runWord_bytes u.lnk.runState u.trp.latch u.lnk.cycleNumber
  exact ⟨code.trans code', latch.trans latch', low.trans low', high.trans high',
    (s.ended_word x (i := 11) (by decide)).trans created, (s.ended_word x (i := 12) (by decide)).trans reported,
    (s.ended_word x (i := 13) (by decide)).trans lost⟩

theorem State.ended_outside {a : Nat} (h : a < 0x01000 ∨ 0x02000 ≤ a) : (s.ended x).cram.read a = (s.closing x).cram.read a :=
  (State.markEnded { s.closing x with comp := none } x).statusWrite_read h

/-- R31, R96 to R99: a compute end that owes no flush. -/
theorem State.ended_quiet (h : (s.told x).trk.tripFlush = false) :
    s.ended x = { s with
      comp := none, gap := { s.gap with stands := (s.ended x).gap.stands }
      lnk := { s.lnk with cycle := (s.ended x).lnk.cycle }, hif := (s.ended x).hif, cram := (s.ended x).cram
      evc := (s.gapTold x).evc, trp := (s.gapTold x).trp, tripNumber := (s.gapTold x).tripNumber
      news := (s.gapTold x).news, irq := (s.gapTold x).irq, irqSignals := (s.gapTold x).irqSignals } ∧
    (s.gapTold x).trp.latch = s.trp.latch ∧
    ∀ a, a < 0x01000 ∨ 0x02000 ≤ a → (s.ended x).cram.read a = (s.gapTold x).cram.read a := by
  have closing := (s.closing_eq x).trans (State.tripFlushNow_none h _)
  have frame := s.ended_frame x
  have outside := fun a => s.ended_outside x (a := a)
  rw [closing] at frame outside
  have tells : s.Tells (s.gapTold x) := s.raises_tells _ _
  have owed := mt (s.told_owes x).mpr (by rw [h]; exact Bool.false_ne_true)
  push Not at owed
  have same : s.trp.latch = true ∨ (s.gapTold x).trp.latch = false := by
    cases latch : s.trp.latch with
    | true => exact .inl rfl
    | false => exact .inr (Bool.eq_false_iff.mpr (owed.2 latch))
  have quiet := tells.quiet same
  refine ⟨?_, ?_, outside⟩
  · generalize s.ended x = E at frame ⊢
    rw [State.told] at frame
    generalize s.gapTold x = e at frame quiet ⊢
    rw [frame]
    rw [quiet]
    rfl
  · rcases same with set | clear
    · rw [set, tells.latch set]
    · rw [clear]
      cases latch : s.trp.latch with
      | false => rfl
      | true => exact absurd (clear.symm.trans (tells.latch latch)) Bool.false_ne_true

theorem State.told_state : (s.told x).trk.state = s.trk.state := by
  have heard : s.Hears (s.gapTold x) := s.raises_hears _ _
  have frame := heard.rest
  rw [State.told]
  generalize s.gapTold x = e at frame
  rw [frame]

/-- R76: a flush owed while tracking is LOST already. -/
theorem State.ended_lost (h : (s.told x).trk.tripFlush = true) (lost : s.trk.state = .lost) :
    s.ended x = { s.gapTold x with
      comp := none, gap := { s.gap with stands := (s.ended x).gap.stands }
      lnk := { (s.gapTold x).lnk with cycle := (s.ended x).lnk.cycle }
      trk := { (s.gapTold x).trk with tripFlush := false }, hif := (s.ended x).hif, cram := (s.ended x).cram } := by
  have still : (s.told x).trk.state = .lost := (s.told_state x).trans lost
  have closing := (s.closing_eq x).trans (State.tripFlushNow_lost h still _)
  have frame := s.ended_frame x
  rw [closing] at frame
  generalize s.ended x = E at frame ⊢
  rw [State.told] at frame
  generalize s.gapTold x = e at frame ⊢
  rw [frame]
  rfl

/-- R76: what a flush at a compute end leaves. -/
theorem State.ended_flushed (h : (s.told x).trk.tripFlush = true) (tracked : s.trk.state ≠ .lost) : let u := s.ended x
    u.trk = { s.trk with
      state := .lost, segs := [], creation := none, q := u.trk.q, qGauge := 0, windows := u.trk.windows, tripFlush := false } ∧
    (∀ k, u.trk.q.get k = 0) ∧
    s.Shed .flush true s.trk.segs.length u ∧
    u = { s with
      comp := none, gap := u.gap, lnk := { s.lnk with cycle := u.lnk.cycle, runState := u.lnk.runState }
      stu := u.stu, trk := u.trk, evc := u.evc, trp := u.trp, tripNumber := u.tripNumber, tripOut := u.tripOut
      rpt := u.rpt, hif := u.hif, cram := u.cram, news := u.news, irq := u.irq, irqSignals := u.irqSignals } := by
  intro u
  have heard : s.Hears (s.gapTold x) := s.raises_hears _ _
  have told : s.told x = { s with
      tripOut := (s.told x).tripOut, news := (s.told x).news, irq := (s.told x).irq, irqSignals := (s.told x).irqSignals
      cram := (s.told x).cram, lnk := { s.lnk with runState := (s.told x).lnk.runState }, stu := (s.told x).stu
      trk := { s.trk with windows := (s.told x).trk.windows, tripFlush := (s.told x).trk.tripFlush }
      trp := (s.told x).trp, tripNumber := (s.told x).tripNumber, evc := (s.told x).evc, gap := (s.told x).gap } := by
    have frame := heard.rest
    rw [State.told]
    generalize s.gapTold x = e at frame
    rw [frame]
  have flush : Moves ofFlush (s.told x) (s.closing x) :=
    s.closing_eq x ▸ State.tripFlushNow_moves (G := ofFlush) rfl _ _
  have closing := (s.closing_eq x).trans (State.tripFlushNow_flushes h _)
  have trk : (s.told x).trk = { s.trk with
      windows := (s.told x).trk.windows, tripFlush := (s.told x).trk.tripFlush } := by rw [told]
  have rpt : (s.told x).rpt = s.rpt := by rw [told]
  have tracked' : (s.told x).trk.state ≠ .lost := by rw [trk]; exact tracked
  have empties := State.enterLost_trk tracked' true x.startTime
  have shed := State.enterLost_shed (trip := true) tracked' x.startTime
  have flushed := flush.flushed.trk
  have around := flush.around.rest
  have frame : u = { s.closing x with comp := none, lnk := u.lnk, hif := u.hif, cram := u.cram } := s.ended_frame x
  have lnk : u.lnk = { s.lnk with cycle := u.lnk.cycle, runState := u.lnk.runState } := by
    have cycle : u.lnk = _ := s.ended_lnk x
    rw [cycle]
  obtain ⟨lost, segs, creation, q, qGauge⟩ : (s.closing x).trk.state = .lost ∧ (s.closing x).trk.segs = [] ∧
      (s.closing x).trk.creation = none ∧ (s.closing x).trk.q = Table.fill 7 0 ∧ (s.closing x).trk.qGauge = 0 := by
    rw [closing]; exact empties
  have paid : (s.closing x).trk.tripFlush = false := by rw [closing]
  have counted : s.Shed .flush true s.trk.segs.length (s.closing x) := by
    rw [closing, ← show (s.told x).trk.segs = s.trk.segs by rw [trk]]
    generalize (s.told x).enterLost true x.startTime = L at shed ⊢
    exact (shed.of_same (u := { L with trk := { L.trk with tripFlush := false } }) rfl rfl).after rpt
  have same : u.trk = (s.closing x).trk ∧ u.rpt = (s.closing x).rpt ∧ u.gap = (s.closing x).gap := by
    rw [frame]; exact ⟨rfl, rfl, rfl⟩
  clear closing shed empties
  generalize s.closing x = C at *
  refine ⟨?_, fun k => ?_, counted.of_same same.2.1 (congrArg Gap.last same.2.2), ?_⟩
  · rw [same.1, flushed, trk, lost, segs, creation, qGauge, paid]
  · rw [same.1, q]; exact Table.get_fill _ _
  · rw [frame, lnk, around, told]

/-- R31, R183: the units that the end of the computation and the status write leave alone. -/
theorem State.ended_units : (s.ended x).gap = (s.closing x).gap ∧ (s.ended x).trp = (s.closing x).trp ∧
    (s.ended x).evc = (s.closing x).evc ∧ (s.ended x).trk = (s.closing x).trk ∧
    (s.ended x).hif.statusNumber = (s.closing x).hif.statusNumber + 1 := by
  unfold State.ended
  generalize s.closing x = C
  exact ⟨rfl, rfl, rfl, rfl, rfl⟩

/-- R96 to R98, R10: GAP's record of a stand after a compute end. -/
theorem State.ended_gap (k : Stand) : let u := s.ended x
    let f := x.formed.get k
    u.gapStand k = { s.gapStand k with
      committed := if x.late then (s.gapStand k).committed else some f.ref
      integrator := (u.gapStand k).integrator, hLock := (u.gapStand k).hLock
      computed := f.computed, formed := some f.ref, late := x.late } ∧
    ((u.gapStand k).hLock = (s.gapStand k).hLock ∧ (u.gapStand k).integrator =
        (if x.late || s.trp.latch || s.trk.tripFlush then (s.gapStand k).integrator else f.candidate) ∨
      (s.told x).trk.tripFlush = true ∧ s.trk.state ≠ .lost ∧ s.stu.pending ≠ none ∧ (u.gapStand k).hLock = none ∧
        (u.gapStand k).integrator = 0) := by
  intro u f
  have flush : Moves ofFlush (s.told x) (s.closing x) :=
    s.closing_eq x ▸ State.tripFlushNow_moves (G := ofFlush) rfl _ _
  have cases : u.gapStand k = (s.gapStand k).atComputeEnd f x.late (s.trp.latch || s.trk.tripFlush) ∨
      ((s.told x).trk.tripFlush = true ∧ s.trk.state ≠ .lost ∧ s.stu.pending ≠ none) ∧
        u.gapStand k = ((s.gapStand k).atComputeEnd f x.late (s.trp.latch || s.trk.tripFlush)).switched := by
    have closed : u.gapStand k = (s.closing x).gapStand k := congrArg (fun g : Gap => g.stands.get k) (s.ended_units x).1
    rw [closed, ← s.told_gapStand x k]
    rcases s.ended_gapStand x k (s.closing x) flush with same | ⟨pending, switched⟩
    · exact .inl same
    · by_cases owed : (s.told x).trk.tripFlush = true
      · by_cases lost : s.trk.state = .lost
        · have closing := (s.closing_eq x).trans (State.tripFlushNow_lost owed ((s.told_state x).trans lost) _)
          rw [closing]
          exact .inl rfl
        · exact .inr ⟨⟨owed, lost, pending⟩, switched⟩
      · rw [s.closing_eq x, State.tripFlushNow_none (Bool.eq_false_iff.mpr owed)]
        exact .inl rfl
  rw [Bool.or_assoc]
  generalize u.gapStand k = G at cases ⊢
  rcases cases with rfl | ⟨⟨owed, tracked, pending⟩, rfl⟩
  · exact ⟨rfl, .inl ⟨rfl, rfl⟩⟩
  · exact ⟨rfl, .inr ⟨owed, tracked, pending, rfl, rfl⟩⟩

/-- R129, R76: the latch and the GAP counters after a compute end. -/
theorem State.ended_keeps : ((s.told x).trk.tripFlush = false ∨ (s.gapTold x).trp.latch = true →
      (s.ended x).trp.latch = (s.gapTold x).trp.latch ∧ (s.ended x).trp.firstOut = (s.gapTold x).trp.firstOut) ∧
    ∀ n, ((s.gapTold x).evc.counters.get n).group = .gap → (s.ended x).evc.counters.get n = (s.gapTold x).evc.counters.get n := by
  have flush : Moves ofFlush (s.told x) (s.closing x) :=
    s.closing_eq x ▸ State.tripFlushNow_moves (G := ofFlush) rfl _ _
  obtain ⟨-, trp, evc, -⟩ := s.ended_units x
  rw [trp, evc]
  refine ⟨fun h => ?_, fun n gap => ?_⟩
  · rcases h with none | latch
    · rw [(s.closing_eq x).trans (State.tripFlushNow_none none _)]
      exact ⟨rfl, rfl⟩
    · have stands := flush.around.latched latch
      exact ⟨stands.latch, stands.firstOut⟩
  · refine (flush.counts.kept n ?_).elim id fun h => nomatch (show EventGroup.track = .segment from h.1)
    show ¬ ((s.gapTold x).evc.counters.get n).group = .segment
    rw [gap]
    exact nofun

end

/-- Settles O35: GAP's results and events, then the flush they or an earlier trip owe; R28 then looks for the next compute
start. -/
theorem computeEndCommitsOrDiscards : Obligations.ComputeEndCommitsOrDiscards := by
  intro s x events e owed ended begins settled hx now
  have eIs : e = x.gapEvents.foldl (fun v e => v.raise e x.startTime) s := by
    have stands : List.finRange 7 = allStands := by decide
    show ((List.finRange 7).flatMap _).foldl _ s = _
    rw [stands]
    rfl
  have eTold : s.gapTold x = e := eIs.symm
  have owes : (s.told x).trk.tripFlush = true ↔ owed := by
    rw [s.told_owes x]
    show _ ∨ _ ∧ (s.gapTold x).trp.latch = true ↔ _
    rw [eTold]
  have lnk := s.ended_lnk x
  have runState := s.ended_runState x
  have begin_ := s.ended_begins x
  refine ⟨s.ended x, (s.ended x).startNext, exec_computeEnd settled hx now, ?_, fun rests => ?_, fun c rest running waiting => ?_,
    fun c running waiting hc due started => ?_⟩
  · obtain ⟨latch, counters⟩ := s.ended_keeps x
    obtain ⟨zero, one⟩ := s.ended_stamps x
    have quiet := s.ended_quiet x
    have lost := s.ended_lost x
    have flushed := s.ended_flushed x
    have paid : (s.ended x).trk.tripFlush = false := by
      rw [(s.ended_units x).2.2.2.1, s.closing_eq x]
      exact State.tripFlushNow_owes _ _
    have hif : (s.ended x).hif = { s.hif with statusNumber := s.hif.statusNumber + 1 } := by
      have same : (s.closing x).hif = s.hif := by
        have frame := (s.closing_moves x).around.rest
        generalize s.closing x = C at frame
        rw [frame]
        rfl
      show { (s.closing x).hif with statusNumber := (s.closing x).hif.statusNumber + 1 } = _
      rw [same]
    rw [eTold] at quiet lost latch counters
    have none (no : ¬ owed) : (s.told x).trk.tripFlush = false := Bool.eq_false_iff.mpr (mt owes.mp no)
    refine ⟨rfl, fun k => ?_, congrArg Lnk.cycle lnk, counters, fun h => latch (h.imp none id), paid, hif, s.ended_status x,
      zero, one, fun no => ?_, fun yes => lost (owes.mpr yes), fun yes tracked => ?_⟩
    · have gap := s.ended_gap x k
      rw [owes] at gap
      exact gap
    · obtain ⟨frame, same, outside⟩ := quiet (none no)
      obtain ⟨code, tripped, low, high, created, reported, lostCount⟩ := s.ended_header x
      generalize s.ended x = u at frame code tripped low high created reported lostCount outside ⊢
      have facts : u.lnk.runState = s.lnk.runState ∧ u.lnk.cycleNumber = s.lnk.cycleNumber ∧ u.trp = e.trp ∧ u.trk = s.trk ∧
          u.rpt = s.rpt := by
        rw [frame]; exact ⟨rfl, rfl, rfl, rfl, rfl⟩
      obtain ⟨run, number, trp, trk, rpt⟩ := facts
      rw [run] at code
      rw [trp, same] at tripped
      rw [number] at low high
      rw [trk] at created
      rw [rpt] at reported lostCount
      exact ⟨frame, code, tripped, low, high, created, reported, lostCount, outside⟩
    · obtain ⟨trk, q, shed, frame⟩ := flushed (owes.mpr yes) tracked
      refine ⟨trk, q, shed.counts, fun segs => ?_, frame⟩
      obtain ⟨l, hl, kind, applied⟩ := shed.last (mt List.length_eq_zero_iff.mp segs)
      exact ⟨l, hl, kind, applied rfl⟩
  · refine State.startNext_none (rests.imp runState.mpr fun ⟨empty, begun⟩ => ⟨by rw [lnk]; exact empty, fun c hc due => ?_⟩)
    rw [lnk] at hc
    obtain ⟨d, hd, rfl⟩ := Option.map_eq_some_iff.mp hc
    have same : (if d.startAt = x.cycleAt then { d with ended := true } else d).due = d.due ∧
        (if d.startAt = x.cycleAt then { d with ended := true } else d).started = d.started := by split <;> exact ⟨rfl, rfl⟩
    rw [same.1] at due
    rw [same.2]
    exact begun d hd due
  · have nodes : (s.ended x).lnk.nodes = s.lnk.nodes ∧ (s.ended x).lnk.warn = s.lnk.warn := by rw [lnk]; exact ⟨rfl, rfl⟩
    have started := (State.computeStart_begun { s.ended x with lnk := { (s.ended x).lnk with waiting := rest } } c).lnk
    have begun := begin_ { (s.ended x).lnk with waiting := rest } c nodes.1 nodes.2 rfl
    rw [State.startNext_waiting (s := s.ended x) (mt runState.mp running) (by rw [lnk]; exact waiting)]
    generalize State.computeStart _ c = t at begun started ⊢
    refine ⟨rfl, begun, ?_, ?_⟩
    · rw [started]
    · rw [started]
  · have nodes : (s.ended x).lnk.nodes = s.lnk.nodes ∧ (s.ended x).lnk.warn = s.lnk.warn := by rw [lnk]; exact ⟨rfl, rfl⟩
    have waits : (s.ended x).lnk.waiting = [] := by rw [lnk]; exact waiting
    have startsNow := (State.computeStart_begun
      { s.ended x with lnk := { (s.ended x).lnk with cycle := some { c with started := true } } } c).lnk
    have begun := begin_ { (s.ended x).lnk with cycle := some { c with started := true } } c nodes.1 nodes.2 rfl
    rw [State.startNext_current (mt runState.mp running) waits hc due started]
    generalize State.computeStart _ c = t at begun startsNow ⊢
    refine ⟨rfl, begun, ?_, ?_⟩
    · rw [startsNow]; exact waits
    · rw [startsNow]

end Sys2Proof.Machine


/-! ## Creation (R67) -/

namespace Sys2Proof.Machine

open Safety

/-- R154: without TRACK events no coil id reaches EVC. -/
theorem Moves.lastCoil {s t : State} (h : Moves ofFlush s t) : t.evc.lastCoil = s.evc.lastCoil := by
  induction h with
  | refl => rfl
  | tail _ step ih =>
    refine Eq.trans ?_ ih
    cases step with
    | detect c time => rw [(State.detect_cases _ c time).1]
    | coil id h => exact nomatch (show EventGroup.track = .segment from h)
    | switch p k h unused => rw [State.switchOne_eq]
    | _ => rfl

/-- R154: the counters at a creation. -/
theorem State.coilCreated_eq (s : State) (id : Word) : s.coilCreated id = { s with evc := (s.coilCreated id).evc } ∧
    (s.coilCreated id).evc.lastCoil = some id ∧
    ∀ n, (s.coilCreated id).evc.counters.get n =
      if s.evc.lastCoil ≠ some id ∧ (s.evc.counters.get n).perCoil = true ∧ (s.evc.counters.get n).group ≠ .off
      then { s.evc.counters.get n with value := 0 } else s.evc.counters.get n := by
  unfold State.coilCreated
  split
  · next same => exact ⟨rfl, same, fun n => by rw [if_neg fun h => h.1 same]⟩
  · next new =>
    refine ⟨rfl, rfl, fun n => ?_⟩
    rw [show (s.evc.counters.map Counter.coilCleared).get n = _ from Table.get_map _ _ _, Counter.coilCleared]
    simp [new]

/-- R67: the zone by the number in the bar and the volume created. -/
theorem zoneFor_cases (c : Schedule) (n volume : Nat) : (n < 4 → zoneFor c (n + 1) volume = .head) ∧
    (4 ≤ n → c.vTail ≤ c.vBar → c.vBar < volume + c.vTail → zoneFor c (n + 1) volume = .tail) ∧
    (4 ≤ n → c.vTail ≤ c.vBar → volume + c.vTail ≤ c.vBar → zoneFor c (n + 1) volume = .body) := by
  unfold zoneFor
  refine ⟨fun few => if_pos (by omega), fun many order past => ?_, fun many order before => ?_⟩
  · rw [if_neg (by omega), if_pos (by omega)]
  · rw [if_neg (by omega), if_neg (by omega)]

/-- R67: the segment a creation record becomes. -/
def State.newSegment (s : State) (r : Creation) (k : Stand) (c : Schedule) (tail : Bool) : Segment :=
  r.segment s.trk.nextId k (if tail then .tail else zoneFor c (r.segCount + 1) (r.volume + c.vSeg)) (s.trk.state == .degraded)

/-- R67: the segment in the table, before EVC hears of it. -/
def State.entered (s : State) (r : Creation) (k : Stand) (c : Schedule) (tail : Bool) : State :=
  { s with
    trk := { s.trk with
      segs := s.trk.segs ++ [s.newSegment r k c tail]
      nextId := s.trk.nextId + 1
      created := s.trk.created + 1
      creation := some { r with sum := 0, count := 0, segCount := r.segCount + 1, volume := r.volume + c.vSeg } }
    comp := s.comp.map (fun x => { x with crossings := x.crossings + 1 }) }

section
variable {s : State} {r : Creation}

theorem State.create_room (open_ : s.trk.creation = some r) (room : s.trk.segs.length < 128) (k : Stand) (c : Schedule) (tail : Bool) :
    s.create k c tail = ((s.entered r k c tail).coilCreated r.coilId).raise
      ⟨.track, .created, some (s.newSegment r k c tail).zone, some k⟩ s.time := by
  have time : ((s.entered r k c tail).coilCreated r.coilId).time = s.time := by
    rw [((s.entered r k c tail).coilCreated_eq r.coilId).1]
    rfl
  rw [State.create, open_, ← time]
  exact if_neg (Nat.not_le.mpr room)

/-- R70, R76: a full table refuses the segment. -/
theorem State.create_full (open_ : s.trk.creation = some r) (full : 128 ≤ s.trk.segs.length) (k : Stand) (c : Schedule) (tail : Bool) :
    s.create k c tail = s.enterLost false s.time := by
  rw [State.create, open_]
  exact if_pos full

end

/-- Settles O44: a table with room takes the segment; a full one refuses it, and the flush of LOST follows. -/
theorem entryCrossingCreatesASegment : Obligations.EntryCrossingCreatesASegment := by
  intro s k c tail r open_ t volume
  refine ⟨fun room => ?_, fun full tracked => ?_⟩
  · obtain ⟨frame, lastCoil, counters⟩ := (s.entered r k c tail).coilCreated_eq r.coilId
    obtain ⟨head, late, body⟩ := zoneFor_cases c r.segCount volume
    refine ⟨s.newSegment r k c tail, (s.entered r k c tail).coilCreated r.coilId, State.create_room open_ room k c tail,
      frame, lastCoil, counters, rfl, rfl, rfl, rfl, rfl, beq_iff_eq, rfl, rfl, rfl, rfl, rfl, rfl, fun last => if_pos last,
      fun inner few => ?_, fun inner many order past => ?_, fun inner many order before => ?_⟩
    · exact (if_neg (by rw [inner]; exact Bool.false_ne_true)).trans (head few)
    · exact (if_neg (by rw [inner]; exact Bool.false_ne_true)).trans (late many order past)
    · exact (if_neg (by rw [inner]; exact Bool.false_ne_true)).trans (body many order before)
  · have refused : t = s.enterLost false s.time := State.create_full open_ full k c tail
    obtain ⟨lost, segs, creation, q, qGauge⟩ := State.enterLost_trk tracked false s.time
    have flush := s.enterLost_moves (G := ofFlush) rfl false s.time
    have trk := flush.flushed.trk
    rw [refused]
    generalize s.enterLost false s.time = L at *
    refine ⟨lost, segs, creation, fun j => by rw [q]; exact Table.get_fill _ _, qGauge, ?_, ?_, flush.lastCoil⟩
    · rw [trk]
    · rw [trk]

end Sys2Proof.Machine


/-! ## Stand points (R63, R66, R69) -/

namespace Sys2Proof.Machine

open Safety

theorem State.tracking_iff (s : State) : s.tracking = true ↔ s.trk.state = .normal ∨ s.trk.state = .degraded := by
  simp [State.tracking]

/-! ### Slips -/

/-- R69: what a slip leaves. -/
def State.slipped (s : State) (stand : Option Stand) (zone : Option Zone) : State :=
  let w := s.raise ⟨.track, .slip, zone, stand⟩ s.time
  { w with trk := { w.trk with state := .degraded } }

theorem State.slipped_eq {s : State} {time : Word} (h : s.time = time) (stand : Option Stand) (zone : Option Zone) :
    s.slipped stand zone = { s.raise ⟨.track, .slip, zone, stand⟩ time with
      trk := { (s.raise ⟨.track, .slip, zone, stand⟩ time).trk with state := .degraded } } := by
  subst h
  rfl

theorem State.degrade_of_tracks {s : State} (h : s.trk.state = .normal ∨ s.trk.state = .degraded) :
    s.degrade = { s with trk := { s.trk with state := .degraded } } := by
  unfold State.degrade
  split
  · rfl
  · next other =>
    have degraded := h.resolve_left other
    rw [← degraded]

theorem State.slip_of_tracks {s : State} (h : s.trk.state = .normal ∨ s.trk.state = .degraded) (stand : Option Stand)
    (zone : Option Zone) : s.slip stand zone = s.slipped stand zone := by
  have kept := s.raise_kept ⟨.track, .slip, zone, stand⟩ s.time
  exact State.degrade_of_tracks (s := s.raise ⟨.track, .slip, zone, stand⟩ s.time) (by rw [kept.track]; exact h)

/-! ### The segment that counts -/

theorem changeFirst_at {p : Segment → Bool} {f : Segment → Segment} {before after : List Segment} {g : Segment}
    (h : ∀ y ∈ before, p y = false) (hg : p g = true) : changeFirst p f (before ++ g :: after) = before ++ f g :: after := by
  induction before with
  | nil => simp [changeFirst, hg]
  | cons y before ih =>
    rw [List.cons_append, changeFirst, if_neg (by rw [h y List.mem_cons_self]; exact Bool.false_ne_true),
      ih fun z hz => h z (List.mem_cons_of_mem y hz)]
    rfl

theorem changeFirst_none {p : Segment → Bool} {f : Segment → Segment} {gs : List Segment} (h : ∀ y ∈ gs, p y = false) :
    changeFirst p f gs = gs := by
  induction gs with
  | nil => rfl
  | cons y gs ih =>
    rw [changeFirst, if_neg (by rw [h y List.mem_cons_self]; exact Bool.false_ne_true), ih fun z hz => h z (List.mem_cons_of_mem y hz)]

theorem Segment.reaches_iff (c : Schedule) (k : Stand) (g : Segment) : g.reaches c k = true ↔
    g.coilId = c.coilId ∧ ∃ j, c.prevOf k = some j ∧ g.list.getLast?.map (·.1) = some j := by
  simp only [Segment.reaches, Segment.lastCrossed, Bool.and_eq_true, beq_iff_eq, Option.isSome_iff_exists, and_assoc]
  refine and_congr_right fun _ => ⟨fun ⟨⟨j, hj⟩, same⟩ => ⟨j, hj, same.trans hj⟩, fun ⟨j, hj, same⟩ => ⟨⟨j, hj⟩, same.trans hj.symm⟩⟩

theorem Table.set_set {n : Nat} {α : Type} (t : Table n α) (i : Fin n) (v w : α) : (t.set i v).set i w = t.set i w := by
  simp [Table.set]

/-! ### The crossing test -/

/-- R66: what is left on a Q that has reached the threshold. -/
def leftOf (thr q : Nat) : Nat := if decide (thr ≤ q - thr) then thr - 1 else q - thr

theorem leftOf_eq (thr q : Nat) : leftOf thr q = if q - thr < thr then q - thr else thr - 1 := by
  unfold leftOf
  by_cases surplus : thr ≤ q - thr
  · rw [if_pos (decide_eq_true surplus), if_neg (Nat.not_lt.mpr surplus)]
  · rw [if_neg (by rw [decide_eq_false surplus]; exact Bool.false_ne_true), if_pos (Nat.not_le.mp surplus)]

section
variable {s : State} {c : Schedule} {k : Stand}

theorem State.standCross_below (h : s.trk.q.get k < c.threshold) (entryPoint : Bool) : s.standCross c entryPoint k = s := if_pos h

/-- R31, R66: a crossing at point k. -/
def State.segmentCrossed (s : State) (k : Stand) (left : Nat) (segs : List Segment) : State :=
  { s with
    trk := { s.trk with q := s.trk.q.set k left, segs := segs }
    comp := s.comp.map (fun x => { x with crossings := x.crossings + 1 }) }

/-- R66, R69: the segment that waits at the point crosses it. -/
theorem State.standCross_crosses (reached : c.threshold ≤ s.trk.q.get k) (tracks : s.trk.state = .normal ∨ s.trk.state = .degraded)
    {before after : List Segment} {g : Segment} (segs : s.trk.segs = before ++ g :: after) (waits : g.reaches c k = true)
    (others : ∀ y ∈ before, y.reaches c k = false) : s.standCross c false k =
      if c.threshold ≤ s.trk.q.get k - c.threshold then
        (s.segmentCrossed k (leftOf c.threshold (s.trk.q.get k)) (before ++ g.cross k :: after)).slipped (some k) (some g.zone)
      else s.segmentCrossed k (leftOf c.threshold (s.trk.q.get k)) (before ++ g.cross k :: after) := by
  have found : s.trk.segs.find? (Segment.reaches c k) = some g := by
    rw [segs, List.find?_append, List.find?_eq_none.mpr fun y hy => by rw [others y hy]; exact Bool.false_ne_true,
      List.find?_cons_of_pos waits]
    rfl
  have changed : changeFirst (Segment.reaches c k) (Segment.cross k) s.trk.segs = before ++ g.cross k :: after := by
    rw [segs]; exact changeFirst_at others waits
  have crossed : (((s.setQ k (leftOf c.threshold (s.trk.q.get k))).withTrk (fun t => { t with
      segs := changeFirst (Segment.reaches c k) (Segment.cross k) t.segs })).chargeCrossings 1) =
        s.segmentCrossed k (leftOf c.threshold (s.trk.q.get k)) (before ++ g.cross k :: after) := by
    show State.chargeCrossings { s with trk := { s.trk with q := _, segs := changeFirst _ _ s.trk.segs } } 1 = _
    rw [changed]
    rfl
  rw [State.standCross]
  dsimp only
  rw [if_neg (Nat.not_lt.mpr reached), found, Bool.false_and, if_neg Bool.false_ne_true]
  dsimp only
  rw [if_neg Bool.false_ne_true, ← leftOf, crossed, State.slip_of_tracks (s := s.segmentCrossed _ _ _) tracks]
  simp only [decide_eq_true_eq]

/-- R69: no segment waits at the point. -/
theorem State.standCross_slips (reached : c.threshold ≤ s.trk.q.get k) (tracks : s.trk.state = .normal ∨ s.trk.state = .degraded)
    {entryPoint : Bool} (none : entryPoint = true ∧ s.trk.creation = none ∨
      entryPoint = false ∧ ∀ y ∈ s.trk.segs, y.reaches c k = false) : s.standCross c entryPoint k =
      State.slipped { s with trk := { s.trk with q := s.trk.q.set k (c.threshold - 1) } } (some k) .none := by
  have slips : (s.setQ k (c.threshold - 1)).slip (some k) .none =
      State.slipped { s with trk := { s.trk with q := s.trk.q.set k (c.threshold - 1) } } (some k) .none :=
    State.slip_of_tracks (s := s.setQ k (c.threshold - 1)) tracks _ _
  rw [State.standCross]
  dsimp only
  rw [if_neg (Nat.not_lt.mpr reached)]
  rcases none with ⟨rfl, closed⟩ | ⟨rfl, absent⟩
  · have shut : s.trk.creation.isSome = false := by rw [closed]; rfl
    rw [shut, Bool.and_false, if_neg Bool.false_ne_true, ← slips]
    cases s.trk.segs.find? (Segment.reaches c k) with
    | none => rfl
    | some g => dsimp only; rw [if_pos rfl]
  · rw [List.find?_eq_none.mpr fun y hy => by rw [absent y hy]; exact Bool.false_ne_true, Bool.false_and,
      if_neg Bool.false_ne_true, ← slips]

/-- R66, R67, R69: a crossing at the entry point. -/
theorem State.standCross_creates (reached : c.threshold ≤ s.trk.q.get k) {r : Creation} (record : s.trk.creation = some r)
    (room : s.trk.segs.length < 128) {v : State}
    (created : (s.setQ k (leftOf c.threshold (s.trk.q.get k))).create k c false = v) : s.standCross c true k =
      if c.threshold ≤ s.trk.q.get k - c.threshold then v.slip (some k) (v.trk.segs.getLast?.map (·.zone)) else v := by
  rw [State.standCross]
  dsimp only
  rw [if_neg (Nat.not_lt.mpr reached), record, if_pos (by rfl), if_neg (show ¬ Config.tableSize ≤ s.trk.segs.length from Nat.not_le.mpr room), ← leftOf, created]
  simp only [decide_eq_true_eq]

theorem State.standCross_full (reached : c.threshold ≤ s.trk.q.get k) {r : Creation} (record : s.trk.creation = some r)
    (full : 128 ≤ s.trk.segs.length) : s.standCross c true k = s.create k c false := by
  rw [State.standCross]
  dsimp only
  rw [if_neg (Nat.not_lt.mpr reached), record, if_pos (by rfl), if_pos (show Config.tableSize ≤ s.trk.segs.length from full)]

end

/-- R67: what a creation leaves of TRK. -/
theorem State.create_leaves {s : State} {r : Creation} (record : s.trk.creation = some r) (room : s.trk.segs.length < 128)
    (k : Stand) (c : Schedule) (tail : Bool) : (s.create k c tail).trk.segs = s.trk.segs ++ [s.newSegment r k c tail] ∧
      (s.create k c tail).trk.q = s.trk.q ∧ (s.create k c tail).trk.state = s.trk.state ∧ (s.create k c tail).time = s.time := by
  have frame := ((s.entered r k c tail).coilCreated_eq r.coilId).1
  rw [State.create_room record room]
  generalize (s.entered r k c tail).coilCreated r.coilId = w at frame ⊢
  have kept := w.raise_kept ⟨.track, .created, some (s.newSegment r k c tail).zone, some k⟩ s.time
  rw [kept.segs, kept.q, kept.track, kept.time, frame]
  exact ⟨rfl, rfl, rfl, rfl⟩

/-! ### The count -/

/-- R63, R73: the state with the cycle's volume and h_gm added. -/
def State.pointCounted (s : State) (p : StandSnap) (c : Schedule) (k : Stand) (h : Nat) : State :=
  { s with trk := { s.trk with
      state := if p.speed.2 = .fresh then s.trk.state else .degraded
      q := s.trk.q.set k (s.trk.q.get k + h * p.travel)
      creation := if p.entryPoint then s.trk.creation.map (fun r => { r with sum := r.sum + h, count := r.count + 1 })
        else s.trk.creation
      segs := if p.entryPoint then s.trk.segs else changeFirst (Segment.reaches c k) (Segment.gather h) s.trk.segs } }

section
variable {sn : Table 7 StandSnap} {s : State} {k : Stand} {c : Schedule} {e : StandEntry}

theorem State.countStand_rests (sched : (sn.get k).sched = some c) (entry : (sn.get k).entry = some e)
    (rests : ¬ (s.trk.state = .normal ∨ s.trk.state = .degraded) ∨ (s.stand k).bite = .empty) : State.countStand sn s k = s := by
  have idle : (s.tracking && (s.stand k).bite == .loaded) = false := by
    rcases rests with out | empty
    · rw [Bool.eq_false_iff.mpr (mt s.tracking_iff.mp out), Bool.false_and]
    · rw [empty]; exact Bool.and_false _
  simp only [State.countStand, sched, entry, idle, Bool.false_eq_true, if_false]

theorem State.countStand_absent (sched : (sn.get k).sched = some c) (entry : (sn.get k).entry = some e)
    (tracks : s.trk.state = .normal ∨ s.trk.state = .degraded) (loaded : (s.stand k).bite = .loaded)
    (absent : (sn.get k).hgm = none) : State.countStand sn s k = { s with trk := { s.trk with state := .degraded } } := by
  have counts : (s.tracking && (s.stand k).bite == .loaded) = true := by rw [s.tracking_iff.mpr tracks, loaded]; rfl
  simp only [State.countStand, sched, entry, counts, absent, if_true]
  exact State.degrade_of_tracks tracks

theorem State.countStand_counts (sched : (sn.get k).sched = some c) (entry : (sn.get k).entry = some e)
    (tracks : s.trk.state = .normal ∨ s.trk.state = .degraded) (loaded : (s.stand k).bite = .loaded) {h : Nat}
    (hgm : (sn.get k).hgm = some h) :
    State.countStand sn s k = (s.pointCounted (sn.get k) c k h).standCross c (sn.get k).entryPoint k := by
  have counts : (s.tracking && (s.stand k).bite == .loaded) = true := by rw [s.tracking_iff.mpr tracks, loaded]; rfl
  simp only [State.countStand, sched, entry, counts, hgm, if_true]
  congr 1
  have speed : (if (sn.get k).speed.2 = .fresh then s else s.degrade) = { s with trk := { s.trk with
      state := if (sn.get k).speed.2 = .fresh then s.trk.state else .degraded } } := by
    split
    · rfl
    · exact State.degrade_of_tracks tracks
  rw [speed, State.pointCounted]
  cases (sn.get k).entryPoint <;> rfl

end

/-- Settles O45: the count of the cycle, then the crossing test on the Q it leaves. -/
theorem standPointsCountAndCross : Obligations.StandPointsCountAndCross := by
  intro sn s k c e p sched entry t slipped tracks reaches thr
  refine ⟨State.countStand_rests sched entry, State.countStand_absent sched entry, fun h tr loaded hgm => ?_⟩
  intro q state left at'
  have counts : t = (s.pointCounted p c k h).standCross c p.entryPoint k := State.countStand_counts sched entry tr loaded hgm
  have atPoint : (s.pointCounted p c k h).trk.q.get k = q := Table.get_set_same _ _ _
  have still : (s.pointCounted p c k h).trk.state = .normal ∨ (s.pointCounted p c k h).trk.state = .degraded := by
    show state = .normal ∨ state = .degraded
    simp only [state]
    split
    · exact tr
    · exact .inr rfl
  have leaves : leftOf c.threshold q = left := leftOf_eq _ _
  have threshold : c.threshold = thr := rfl
  have slips (v : State) (time : v.time = s.time) {zone : Option Zone} : v.slipped (some k) zone = slipped v zone :=
    State.slipped_eq time _ _
  have below (small : q < thr) : t = s.pointCounted p c k h := counts.trans (State.standCross_below (by rw [atPoint]; exact small) _)
  have reaches_false {g : Segment} (no : ¬ reaches g) : g.reaches c k = false :=
    Bool.eq_false_iff.mpr (mt (g.reaches_iff c k).mp no)
  refine ⟨fun later => ⟨fun before g after segs waits others => ?_, fun none => ?_⟩, fun first closed => ?_, fun first r record => ?_⟩
  · have unreached : ∀ y ∈ before, y.reaches c k = false := fun y hy => reaches_false (others y hy)
    have waiting : g.reaches c k = true := (g.reaches_iff c k).mpr waits
    have changed : changeFirst (Segment.reaches c k) (Segment.gather h) s.trk.segs = before ++ g.gather h :: after := by
      rw [segs]; exact changeFirst_at unreached waiting
    have counted : s.pointCounted p c k h = { s with trk := at' q state (before ++ g.gather h :: after) } := by
      unfold State.pointCounted
      rw [changed, later]
      rfl
    have waits' : (g.gather h).reaches c k = true := waiting
    have zone : (g.gather h).zone = g.zone := rfl
    refine ⟨fun small => (below small).trans counted, fun reached => ?_⟩
    intro v
    have crosses := State.standCross_crosses (s := s.pointCounted p c k h) (by rw [atPoint]; exact reached) still
      (congrArg (fun u : State => u.trk.segs) counted) waits' unreached
    have crossed : (s.pointCounted p c k h).segmentCrossed k left (before ++ (g.gather h).cross k :: after) = v := by
      rw [counted]
      unfold State.segmentCrossed
      dsimp only [at']
      rw [Table.set_set]
      rfl
    rw [counts, later, crosses, atPoint, leaves, crossed, threshold, slips v rfl, zone]
  · have unreached : ∀ y ∈ s.trk.segs, y.reaches c k = false := fun y hy => reaches_false (none y hy)
    have counted : s.pointCounted p c k h = { s with trk := at' q state s.trk.segs } := by
      unfold State.pointCounted
      rw [changeFirst_none unreached, later]
      rfl
    refine ⟨fun small => (below small).trans counted, fun reached => ?_⟩
    have crosses := State.standCross_slips (s := s.pointCounted p c k h) (by rw [atPoint]; exact reached) still (entryPoint := false)
      (.inr ⟨rfl, by rw [counted]; exact unreached⟩)
    have left' : ({ s.pointCounted p c k h with trk := { (s.pointCounted p c k h).trk with
        q := (s.pointCounted p c k h).trk.q.set k (c.threshold - 1) } } : State) =
        { s with trk := at' (thr - 1) state s.trk.segs } := by
      rw [counted]
      dsimp only [at']
      rw [Table.set_set]
      rfl
    rw [counts, later, crosses, left']
    exact slips { s with trk := at' (thr - 1) state s.trk.segs } rfl
  · have counted : s.pointCounted p c k h = { s with trk := at' q state s.trk.segs } := by
      have shut : s.trk.creation.map (fun r => { r with sum := r.sum + h, count := r.count + 1 }) = s.trk.creation := by
        rw [closed]; rfl
      unfold State.pointCounted
      rw [first, if_pos rfl, if_pos rfl, shut]
    refine ⟨fun small => (below small).trans counted, fun reached => ?_⟩
    have crosses := State.standCross_slips (s := s.pointCounted p c k h) (by rw [atPoint]; exact reached) still (entryPoint := true)
      (.inl ⟨rfl, by rw [counted]; exact closed⟩)
    have left' : ({ s.pointCounted p c k h with trk := { (s.pointCounted p c k h).trk with
        q := (s.pointCounted p c k h).trk.q.set k (c.threshold - 1) } } : State) =
        { s with trk := at' (thr - 1) state s.trk.segs } := by
      rw [counted]
      dsimp only [at']
      rw [Table.set_set]
      rfl
    rw [counts, first, crosses, left']
    exact slips { s with trk := at' (thr - 1) state s.trk.segs } rfl
  · intro r1
    have counted : s.pointCounted p c k h = { s with trk := { at' q state s.trk.segs with creation := some r1 } } := by
      have added : s.trk.creation.map (fun r => { r with sum := r.sum + h, count := r.count + 1 }) = some r1 := by
        rw [record]; rfl
      unfold State.pointCounted
      rw [first, if_pos rfl, if_pos rfl, added]
    have record' : (s.pointCounted p c k h).trk.creation = some r1 := by rw [counted]
    refine ⟨fun small => (below small).trans counted, fun reached room => ?_, fun reached full => ?_⟩
    · intro v
      have created : ((s.pointCounted p c k h).setQ k left).create k c false = v := by
        have counting : (s.pointCounted p c k h).setQ k left =
            { s with trk := { at' left state s.trk.segs with creation := some r1 } } := by
          rw [counted]
          unfold State.setQ State.withTrk
          dsimp only [at']
          rw [Table.set_set]
        rw [counting]
      have crosses := State.standCross_creates (s := s.pointCounted p c k h) (by rw [atPoint]; exact reached) record'
        (by rw [counted]; exact room)
        (v := v) (by rw [atPoint, leaves]; exact created)
      obtain ⟨segs, vq, vState, time⟩ := State.create_leaves
        (s := { s with trk := { at' left state s.trk.segs with creation := some r1 } }) rfl room k c false
      refine ⟨?_, vq, ?_⟩
      · rw [show v.trk.segs = _ from segs, List.length_append]
        rfl
      · have vTracks : v.trk.state = .normal ∨ v.trk.state = .degraded := by
          rw [show v.trk.state = state from vState]
          have stays := still
          rw [counted] at stays
          exact stays
        rw [counts, first, crosses, atPoint, threshold, State.slip_of_tracks vTracks, slips v time]
    · have crosses := State.standCross_full (s := s.pointCounted p c k h) (by rw [atPoint]; exact reached) record'
        (by rw [counted]; exact full)
      have refused := State.create_full record' (by rw [counted]; exact full) k c false
      have tracked : (s.pointCounted p c k h).trk.state ≠ .lost := by
        intro lost
        rw [lost] at still
        exact still.elim nofun nofun
      obtain ⟨lost, segs, creation, -⟩ := State.enterLost_trk tracked false (s.pointCounted p c k h).time
      have trk := ((s.pointCounted p c k h).enterLost_moves (G := ofFlush) rfl false
        (s.pointCounted p c k h).time).flushed.trk
      rw [counts, first, crosses, refused]
      refine ⟨lost, segs, creation, ?_⟩
      rw [trk]
      rfl

end Sys2Proof.Machine


/-! ## The gauge point and TRK's whole work (R64, R65) -/

namespace Sys2Proof.Machine

open Safety

/-! ### Slips at the gauge point -/

theorem State.slip_eq {s : State} {time : Word} (h : s.time = time) (stand : Option Stand) (zone : Option Zone) :
    s.slip stand zone = { s.raise ⟨.track, .slip, zone, stand⟩ time with
      trk := { (s.raise ⟨.track, .slip, zone, stand⟩ time).trk with
        state := if (s.raise ⟨.track, .slip, zone, stand⟩ time).trk.state = .normal then .degraded
          else (s.raise ⟨.track, .slip, zone, stand⟩ time).trk.state } } := by
  subst h
  rw [State.slip]
  show State.degrade (s.raise ⟨.track, .slip, zone, stand⟩ s.time) = _
  generalize s.raise ⟨.track, .slip, zone, stand⟩ s.time = w
  unfold State.degrade
  split <;> rfl

/-! ### The gauge point -/

/-- R73: the feed stand of the gauge point is LOADED without a fresh speed. -/
def State.gaugeSlow (s : State) (sn : Table 7 StandSnap) : Bool :=
  (feedStand sn).any (fun k => (s.stand k).bite == .loaded && (sn.get k).speed.2 != .fresh)

/-- R64, R73, R104: the state with the cycle's volume and reading added. -/
def State.gaugeCounted (s : State) (sn : Table 7 StandSnap) (n : Node) (h : Nat) : State :=
  { s with trk := { s.trk with
      state := if s.gaugeSlow sn then .degraded else s.trk.state
      qGauge := s.trk.qGauge + h * travelOf s.trk.gaugeSpeed s.cycleTime
      segs := readOldest (n.mark == .fresh) h s.trk.segs } }

section
variable {s : State} {sn : Table 7 StandSnap} {n : Node} {thr : Nat}

theorem State.countGauge_rests (h : s.nodeFor .exitGauge none = none ∨ ¬ (s.trk.state = .normal ∨ s.trk.state = .degraded)) :
    s.countGauge sn = s := by
  unfold State.countGauge
  split
  · rfl
  · next n hn =>
    split
    · rfl
    · have out := h.resolve_left (by rw [hn]; exact Option.some_ne_none n)
      rw [Bool.eq_false_iff.mpr (mt s.tracking_iff.mp out), Bool.false_and, if_neg Bool.false_ne_true]

theorem State.countGauge_absent (node : s.nodeFor .exitGauge none = some n) (h : n.value = none ∨ n.strip = false) :
    s.countGauge sn = s := by
  simp only [State.countGauge, node]
  split
  · rfl
  · next v hv =>
    have gone : n.strip = false := h.resolve_left (by rw [hv]; exact Option.some_ne_none v)
    rw [gone, Bool.and_false, if_neg Bool.false_ne_true]

theorem State.countGauge_counts (node : s.nodeFor .exitGauge none = some n) {h : Nat} {c : Schedule}
    (tracks : s.trk.state = .normal ∨ s.trk.state = .degraded) (value : n.value = some h) (strip : n.strip = true)
    (sched : (sn.get 6).sched = some c) : s.countGauge sn = (s.gaugeCounted sn n h).gaugeCross c.threshold := by
  have counts : (s.tracking && n.strip) = true := by rw [s.tracking_iff.mpr tracks, strip]; rfl
  simp only [State.countGauge, node, value, counts, sched, if_true]
  congr 1
  have slow : (if s.gaugeSlow sn then s.degrade else s) =
      { s with trk := { s.trk with state := if s.gaugeSlow sn then .degraded else s.trk.state } } := by
    split
    · exact State.degrade_of_tracks tracks
    · rfl
  rw [← State.gaugeSlow, slow]
  rfl

theorem State.gaugeCross_below (h : s.trk.qGauge < thr) : s.gaugeCross thr = s := if_pos h

/-- R66, R68: the oldest segment crosses the gauge point. -/
def State.gaugeRemoved (s : State) (left : Nat) : State :=
  State.removeOldest (State.chargeCrossings { s with trk := { s.trk with qGauge := left } } 1) .gauge false s.time

theorem State.gaugeCross_crosses {g : Segment} {rest : List Segment} (reached : thr ≤ s.trk.qGauge) (segs : s.trk.segs = g :: rest)
    (crossed : g.crossedAll = true) : s.gaugeCross thr = if thr ≤ s.trk.qGauge - thr
      then (s.gaugeRemoved (leftOf thr s.trk.qGauge)).slip none (some g.zone)
      else s.gaugeRemoved (leftOf thr s.trk.qGauge) := by
  rw [State.gaugeCross]
  dsimp only
  rw [if_neg (Nat.not_lt.mpr reached), show s.trk.segs.head? = some g by rw [segs]; rfl]
  dsimp only
  have left : leftOf thr s.trk.qGauge = if decide (thr ≤ s.trk.qGauge - thr) then thr - 1 else s.trk.qGauge - thr := rfl
  rw [if_pos crossed, ← left]
  have removed : ((s.withTrk (fun t => { t with qGauge := leftOf thr s.trk.qGauge })).chargeCrossings 1).removeOldest .gauge false
      (s.withTrk (fun t => { t with qGauge := leftOf thr s.trk.qGauge })).time = s.gaugeRemoved (leftOf thr s.trk.qGauge) := rfl
  rw [removed]
  simp only [decide_eq_true_eq]

theorem State.gaugeCross_slips (reached : thr ≤ s.trk.qGauge)
    (none : ∀ g rest, s.trk.segs = g :: rest → g.crossedAll = false) : s.gaugeCross thr =
      State.slip { s with trk := { s.trk with qGauge := thr - 1 } } .none .none := by
  rw [State.gaugeCross]
  dsimp only
  rw [if_neg (Nat.not_lt.mpr reached)]
  have head : s.trk.segs.head? = .none ∨ ∃ g, s.trk.segs.head? = some g ∧ g.crossedAll = false := by
    cases segs : s.trk.segs with
    | nil => exact .inl rfl
    | cons g rest => exact .inr ⟨g, rfl, none g rest segs⟩
  rcases head with empty | ⟨g, oldest, waits⟩
  · rw [empty]
    rfl
  · rw [oldest]
    dsimp only
    rw [waits]
    exact if_neg Bool.false_ne_true

end

/-! ### TRK's whole work -/

/-- R12: no move changes a bite state. -/
theorem Move.bite {G : EventGroup → Prop} {s t : State} (h : Move G s t) (k : Stand) : (t.stand k).bite = (s.stand k).bite := by
  cases h with
  | detect c time =>
    rw [State.detect]
    cases latch : s.trp.latch with
    | true => rw [State.detectFrom_set latch]; rfl
    | false =>
      rw [State.detectFrom_clear latch]
      show ((s.stu.stands.map (fun r => { r with requested := Requested.position })).get k).bite = _
      rw [Table.get_map]
      rfl
  | coil id h => unfold State.coilCreated; split <;> rfl
  | switch p j h unused =>
    rw [State.switchOne_eq]
    show ((s.stu.stands.modify j StandRec.switched).get k).bite = _
    rw [Table.get_modify]
    split <;> rfl
  | change p h =>
    show ((s.stu.stands.map (fun r => { r with use := .active })).get k).bite = _
    rw [Table.get_map]
    rfl
  | _ => rfl

theorem Moves.bite {G : EventGroup → Prop} {s t : State} (h : Moves G s t) (k : Stand) : (t.stand k).bite = (s.stand k).bite := by
  induction h with
  | refl => rfl
  | tail _ step ih => exact (step.bite k).trans ih

/-- R62: the gauge speed of a computation. -/
def State.gaugeSpeedFor (s : State) (sn : Table 7 StandSnap) : Nat :=
  match feedStand sn with
  | some k => if (s.stand k).bite = .loaded then (sn.get k).exitSpeed else s.trk.gaugeSpeed
  | none => s.trk.gaugeSpeed

theorem State.updateGaugeSpeed_eq (s : State) (sn : Table 7 StandSnap) :
    s.updateGaugeSpeed sn = { s with trk := { s.trk with gaugeSpeed := s.gaugeSpeedFor sn } } := by
  unfold State.updateGaugeSpeed State.gaugeSpeedFor
  cases feedStand sn with
  | none => rfl
  | some k =>
    dsimp only
    split <;> rfl

theorem State.presentSpeedLost_speed (s : State) (sn : Table 7 StandSnap) :
    (s.presentSpeedLost sn).gaugeSpeedFor sn = s.gaugeSpeedFor sn := by
  unfold State.presentSpeedLost
  dsimp only
  generalize (allStands.any _ : Bool) = lost
  split
  · have moves := State.enterLost_moves (G := ofFlush) rfl (s.withTrk (fun t => { t with speedLost := lost })) false s.time
    have speed : ((s.withTrk (fun t => { t with speedLost := lost })).enterLost false s.time).trk.gaugeSpeed = s.trk.gaugeSpeed := by
      rw [moves.flushed.trk]
      rfl
    have bite := moves.bite
    show State.gaugeSpeedFor ((s.withTrk (fun t => { t with speedLost := lost })).enterLost false s.time) sn = _
    generalize (s.withTrk (fun t => { t with speedLost := lost })).enterLost false s.time = L at speed bite ⊢
    unfold State.gaugeSpeedFor
    cases feedStand sn with
    | none => exact speed
    | some k =>
      dsimp only
      rw [bite k, speed]
      rfl
  · rfl

/-- R65: the stands with a head-on, a tail-off, an entry head-on. -/
def standsThat (p : Stand → Bool) : List Stand := allStands.filter p

/-- R65: TRK's answer to the bite changes, in the order of log entry 12. -/
theorem State.trackBites_eq (s : State) (sn : Table 7 StandSnap) : s.trackBites sn =
    (standsThat (fun k => (sn.get k).change == .headOn)).foldl (fun v k => match (sn.get k).sched, (sn.get k).entry with
        | some c, some e => v.openWindow c e k
        | _, _ => v)
      ((standsThat (fun k => (sn.get k).entryHeadOn)).foldl
        (fun v k => ((sn.get k).sched.map (fun c => v.startBar c k (sn.get k).reuse)).getD v)
        ((standsThat (fun k => (sn.get k).change == .tailOff)).foldl (fun v k => v.trackTailOff (sn.get k) k)
          ((standsThat (fun k => (sn.get k).change == .headOn)).foldl State.closeInto s))) := by
  simp only [standsThat, List.foldl_filter]
  have begins (v : State) (k : Stand) : (if (sn.get k).entryHeadOn = true then
      ((sn.get k).sched.map (fun c => v.startBar c k (sn.get k).reuse)).getD v else v) =
      match (sn.get k).entryHeadOn, (sn.get k).sched with
      | true, some c => v.startBar c k (sn.get k).reuse
      | _, _ => v := by
    cases (sn.get k).entryHeadOn <;> cases (sn.get k).sched <;> rfl
  have opens (v : State) (k : Stand) : (if (sn.get k).change = .headOn then
      match (sn.get k).sched, (sn.get k).entry with
      | some c, some e => v.openWindow c e k
      | _, _ => v else v) =
      match (sn.get k).change, (sn.get k).sched, (sn.get k).entry with
      | .headOn, some c, some e => v.openWindow c e k
      | _, _, _ => v := by
    cases (sn.get k).change <;> cases (sn.get k).sched <;> cases (sn.get k).entry <;> rfl
  simp only [beq_iff_eq, begins, opens]
  rfl

theorem changes_iff (sn : Table 7 StandSnap) : allStands.any (fun k => (sn.get k).change != .none) = true ↔
    ¬ (standsThat (fun k => (sn.get k).change == .headOn) ++ standsThat (fun k => (sn.get k).change == .tailOff) = []) := by
  have other (b : BiteChange) : (b != .none) = true ↔ b = .headOn ∨ b = .tailOff := by cases b <;> decide
  simp only [standsThat, List.append_eq_nil_iff, List.filter_eq_nil_iff, List.any_eq_true, other, beq_iff_eq, not_and_or,
    not_forall, not_not, exists_prop, and_or_left, exists_or]

/-- R65: TRK's work after the bite changes. -/
def State.trackOn (s : State) (sn : Table 7 StandSnap) (drop : Bool) : State :=
  allStands.foldl (State.advanceWindow sn) (standsDown.foldl (State.countStand sn) ((if drop then s.stripDrop else s).countGauge sn))

theorem State.track_eq (s : State) (sn : Table 7 StandSnap) (drop : Bool) : s.track sn drop =
    State.trackOn (if standsThat (fun k => (sn.get k).change == .headOn) ++ standsThat (fun k => (sn.get k).change == .tailOff) = []
      then ({ s.presentSpeedLost sn with trk := { (s.presentSpeedLost sn).trk with gaugeSpeed := s.gaugeSpeedFor sn } } : State).trackBites sn
      else (({ s.presentSpeedLost sn with trk := { (s.presentSpeedLost sn).trk with gaugeSpeed := s.gaugeSpeedFor sn } } : State).trackBites sn).switchTest)
      sn drop := by
  rw [State.track, State.updateGaugeSpeed_eq, State.presentSpeedLost_speed]
  dsimp only
  rw [State.trackOn]
  by_cases changes : allStands.any (fun k => (sn.get k).change != .none) = true
  · rw [if_pos changes, if_neg ((changes_iff sn).mp changes)]
  · rw [if_neg changes, if_pos (not_not.mp (mt (changes_iff sn).mpr changes))]

/-- R79: a stand whose window is lost has none. -/
theorem State.loseHead_again (s : State) (k : Stand) : (s.loseHead k).trk.windows.get k = none ∧
    (s.loseHead k).loseHead k = s.loseHead k := by
  have shut : (s.loseHead k).trk.windows.get k = none := by
    cases window : s.trk.windows.get k with
    | none => rw [State.loseHead, window]; exact window
    | some w =>
      have lost : s.loseHead k = (s.windowClosed k).detect (.headLost k) s.time := by rw [State.loseHead, window]; rfl
      rw [lost]
      exact (s.headLost_leaves k).1
  exact ⟨shut, by rw [State.loseHead, shut]; rfl⟩

/-- R62: the feed stand of the gauge point is the last in-service stand of the schedule stand 7 uses. -/
theorem State.gaugeSpeedFor_eq (s : State) (sn : Table 7 StandSnap) : s.gaugeSpeedFor sn =
    match (sn.get 6).sched.bind (·.lastStand) with
      | some k => if (s.stand k).bite = .loaded then (sn.get k).exitSpeed else s.trk.gaugeSpeed
      | none => s.trk.gaugeSpeed := by
  unfold State.gaugeSpeedFor feedStand
  cases (sn.get 6).sched.bind (·.lastStand) <;> rfl

theorem State.gaugeSlow_iff {s : State} {sn : Table 7 StandSnap} {c : Schedule} (sched : (sn.get 6).sched = some c) :
    s.gaugeSlow sn = true ↔ ∃ k, c.lastStand = some k ∧ (s.stand k).bite = .loaded ∧ (sn.get k).speed.2 ≠ .fresh := by
  unfold State.gaugeSlow feedStand
  rw [sched, Option.bind_some, Option.any_eq_true]
  simp only [Bool.and_eq_true, beq_iff_eq, bne_iff_ne]

/-- R104: a fresh reading goes to a segment that has crossed its whole path. -/
theorem readOldest_crossed {g : Segment} (h : Nat) (rest : List Segment) (mark : Mark) (crossed : g.crossedAll = true) :
    readOldest (mark == .fresh) h (g :: rest) = (if mark = .fresh ∧ g.gaugeCount < 65535
      then { g with gaugeSum := g.gaugeSum + h, gaugeCount := g.gaugeCount + 1 } else g) :: rest := by
  rw [readOldest, crossed, Bool.and_true]
  by_cases fresh : mark = .fresh
  · simp only [fresh, beq_self_eq_true, if_true, true_and, Segment.read]
  · rw [if_neg (mt beq_iff_eq.mp fresh), if_neg (fun both => fresh both.1)]

theorem readOldest_waits (h : Nat) (mark : Mark) {segs : List Segment}
    (waits : ∀ g rest, segs = g :: rest → g.list.length ≠ g.pathLen) : readOldest (mark == .fresh) h segs = segs := by
  cases segs with
  | nil => rfl
  | cons g rest =>
    rw [readOldest, Segment.crossedAll, beq_eq_false_iff_ne.mpr (waits g rest rfl), Bool.and_false, if_neg Bool.false_ne_true]

/-- R65: with no bite change there is nothing TRK answers. -/
theorem State.trackBites_quiet {s : State} {sn : Table 7 StandSnap}
    (quiet : ∀ k, (sn.get k).change = .none ∧ (sn.get k).entryHeadOn = false) : s.trackBites sn = s ∧
    standsThat (fun k => (sn.get k).change == .headOn) ++ standsThat (fun k => (sn.get k).change == .tailOff) = [] := by
  have empty {p : Stand → Bool} (h : ∀ k, p k = false) : standsThat p = [] :=
    List.filter_eq_nil_iff.mpr (fun k _ => by rw [h k]; exact Bool.false_ne_true)
  have heads := empty (p := fun k => (sn.get k).change == .headOn) (fun k => by rw [(quiet k).1]; rfl)
  have tails := empty (p := fun k => (sn.get k).change == .tailOff) (fun k => by rw [(quiet k).1]; rfl)
  have begins := empty (p := fun k => (sn.get k).entryHeadOn) (fun k => (quiet k).2)
  rw [State.trackBites_eq, heads, tails, begins]
  exact ⟨rfl, rfl⟩

/-- R61: with the speed nodes of the entries present speed is not lost. -/
theorem State.presentSpeedLost_present {s : State} {sn : Table 7 StandSnap} (lost : s.trk.speedLost = false)
    (speeds : ∀ k, (sn.get k).entry.isSome = true → s.excluded .speed (some k) = false) : s.presentSpeedLost sn = s := by
  have present : allStands.any (fun k => (sn.get k).entry.isSome && s.excluded .speed (some k)) = false := by
    rw [List.any_eq_false]
    intro k _ both
    obtain ⟨entry, excluded⟩ := Bool.and_eq_true_iff.mp both
    rw [speeds k entry] at excluded
    exact Bool.false_ne_true excluded
  rw [State.presentSpeedLost, present]
  show s.withTrk (fun t => { t with speedLost := false }) = s
  rw [← lost]
  rfl

/-- R69: the moment of a removal's slip is the removal's. -/
theorem State.gaugeRemoved_time (s : State) (left : Nat) : (s.gaugeRemoved left).time = s.time := by
  unfold State.gaugeRemoved
  rw [(State.removeOldest_moves (G := ofAny) trivial _ .gauge false s.time).around.rest]
  rfl

/-- Settles O46: the gauge point by whether it counts, reaches its threshold, and finds a segment that has crossed its path;
TRK's work as the folds of R65 over the stands that change. -/
theorem gaugePointCountsAndRemoves : Obligations.GaugePointCountsAndRemoves := by
  refine ⟨fun sn s => ?_, fun sn s quiet lost speeds => ?_, fun sn s drop => ?_, fun s sn k => ?_⟩
  · intro t slipped tracks
    refine ⟨State.countGauge_rests, fun n node => ⟨State.countGauge_absent node, ?_⟩⟩
    intro h c state counts value strip sched thr q slow left at' whenSlow whenNot
    have slips (v : State) (time : v.time = s.time) (zone : Option Zone) : v.slip none zone = slipped v zone := by
      rw [State.slip_eq time]
    have counted (segs : List Segment) (read : readOldest (n.mark == .fresh) h s.trk.segs = segs) :
        s.gaugeCounted sn n h = { s with trk := at' q state segs } := by
      have judged : (if s.gaugeSlow sn then TrackState.degraded else s.trk.state) = state := by
        by_cases bad : s.gaugeSlow sn = true
        · rw [if_pos bad, whenSlow ((State.gaugeSlow_iff sched).mp bad)]
        · rw [if_neg bad, whenNot (mt (State.gaugeSlow_iff sched).mpr bad)]
      rw [State.gaugeCounted, judged, read]
    have crosses : t = (s.gaugeCounted sn n h).gaugeCross thr := State.countGauge_counts node counts value strip sched
    refine ⟨fun g rest segs whole => ?_, fun waits => ?_⟩
    · intro g1
      have crossed : g.crossedAll = true := beq_iff_eq.mpr whole
      have read : readOldest (n.mark == .fresh) h s.trk.segs = g1 :: rest := by
        rw [segs]
        exact readOldest_crossed h rest n.mark crossed
      have crossed1 : g1.crossedAll = true := by
        show (if _ then _ else g : Segment).crossedAll = true
        split <;> exact crossed
      have zone1 : g1.zone = g.zone := by
        show (if _ then _ else g : Segment).zone = g.zone
        split <;> rfl
      rw [crosses, counted _ read]
      refine ⟨fun below => State.gaugeCross_below below, ?_⟩
      intro reached v
      generalize counting : ({ s with trk := at' q state (g1 :: rest) } : State) = r
      have removed : r.gaugeRemoved left = v := by subst counting; rfl
      have atLeft : leftOf thr r.trk.qGauge = left := by subst counting; exact leftOf_eq thr q
      have atQ : r.trk.qGauge = q := by subst counting; rfl
      have time : v.time = s.time := by rw [← removed, r.gaugeRemoved_time, ← counting]
      rw [State.gaugeCross_crosses (g := g1) (rest := rest) (by rw [atQ]; exact reached) (by rw [← counting]) crossed1, atLeft, atQ,
        removed, zone1, slips v time]
    · have read : readOldest (n.mark == .fresh) h s.trk.segs = s.trk.segs := readOldest_waits h n.mark waits
      rw [crosses, counted _ read]
      refine ⟨fun below => State.gaugeCross_below below, fun reached => ?_⟩
      generalize counting : ({ s with trk := at' q state s.trk.segs } : State) = r
      have segs : r.trk.segs = s.trk.segs := by subst counting; rfl
      have atQ : r.trk.qGauge = q := by subst counting; rfl
      have reset : ({ r with trk := { r.trk with qGauge := thr - 1 } } : State) = { s with trk := at' (thr - 1) state s.trk.segs } := by
        subst counting
        rfl
      rw [State.gaugeCross_slips (by rw [atQ]; exact reached) (fun g rest oldest => beq_eq_false_iff_ne.mpr (waits g rest (segs ▸ oldest))), reset]
      exact slips { s with trk := at' (thr - 1) state s.trk.segs } rfl none
  · intro speed v w
    obtain ⟨same, none⟩ := State.trackBites_quiet (s := { s with trk := { s.trk with gaugeSpeed := speed } }) quiet
    have speedIs : s.gaugeSpeedFor sn = speed := s.gaugeSpeedFor_eq sn
    rw [State.track_eq, State.presentSpeedLost_present lost speeds, speedIs, same, if_pos none]
    rfl
  · intro stands heads tails begins v speed w1 w2 w3 w4 w5 w6 w7
    have speedIs : s.gaugeSpeedFor sn = speed := s.gaugeSpeedFor_eq sn
    have bites : ({ v with trk := { v.trk with gaugeSpeed := s.gaugeSpeedFor sn } } : State).trackBites sn = w4 := by
      rw [State.trackBites_eq, speedIs]
      rfl
    rw [State.track_eq, bites]
    rfl
  · obtain ⟨shut, again⟩ := s.loseHead_again k
    exact ⟨shut, by rw [State.trackTailOff, State.trackTailOff, again]⟩

end Sys2Proof.Machine


/-! ## The ends of a bar (R71, R72, R74 to R76) -/

namespace Sys2Proof.Machine

open Safety

/-! ### Forced crossings -/

/-- R69: what a slip keeps, and the tracking state it leaves. -/
theorem State.slip_leaves (s : State) (stand : Option Stand) (zone : Option Zone) : (s.slip stand zone).time = s.time ∧
    (s.slip stand zone).trk.q = s.trk.q ∧
    (s.slip stand zone).trk.state = if s.trk.state = .normal then .degraded else s.trk.state := by
  have kept := s.raise_kept ⟨.track, .slip, zone, stand⟩ s.time
  rw [State.slip_eq rfl]
  generalize s.raise ⟨.track, .slip, zone, stand⟩ s.time = w at kept ⊢
  exact ⟨kept.time, kept.q, by rw [← kept.track]⟩

/-- R69: the same of several slips. -/
theorem State.slips_leave (k : Stand) (gs : List Segment) (s : State) :
    (gs.foldl (fun v g => v.slip (some k) (some g.zone)) s).time = s.time ∧
    (gs.foldl (fun v g => v.slip (some k) (some g.zone)) s).trk.q = s.trk.q ∧
    (gs.foldl (fun v g => v.slip (some k) (some g.zone)) s).trk.state =
      if gs ≠ [] ∧ s.trk.state = .normal then .degraded else s.trk.state := by
  induction gs generalizing s with
  | nil => exact ⟨rfl, rfl, (if_neg (fun h => h.1 rfl)).symm⟩
  | cons g gs ih =>
    obtain ⟨time, q, state⟩ := s.slip_leaves (some k) (some g.zone)
    obtain ⟨times, qs, states⟩ := ih (s.slip (some k) (some g.zone))
    simp only [List.foldl_cons]
    refine ⟨times.trans time, qs.trans q, states.trans ?_⟩
    rw [state]
    by_cases normal : s.trk.state = .normal
    · rw [if_pos normal, if_neg (fun h => nomatch h.2), if_pos ⟨List.cons_ne_nil g gs, normal⟩]
    · rw [if_neg normal, if_neg (fun h => normal h.2), if_neg (fun h => normal h.2)]

/-- R71: the segments that have reached stand k, forced across. -/
def State.forced (s : State) (c : Schedule) (k : Stand) : State :=
  { s with
    trk := { s.trk with segs := s.trk.segs.map (fun g => if g.reaches c k
      then { g with list := g.list ++ [(k, if g.count = 0 then none else meanOf g.sum g.count)], sum := 0, count := 0 } else g) }
    comp := s.comp.map (fun x => { x with crossings := x.crossings + (s.trk.segs.filter (Segment.reaches c k)).length }) }

theorem meanOf_none (g : Segment) : (if g.count = 0 then none else meanOf g.sum g.count) = meanOf g.sum g.count := by
  unfold meanOf
  split <;> rfl

theorem State.forceCross_eq (s : State) (c : Schedule) (k : Stand) : s.forceCross c k =
    State.setQ (((s.trk.segs.filter (Segment.reaches c k)).drop 1).foldl (fun v g => v.slip (some k) (some g.zone)) (s.forced c k)) k 0 := by
  rw [State.forced]
  simp only [meanOf_none]
  rfl

/-- R69: slips written out. -/
theorem State.slips_eq {f : State → Segment → State} {k : Stand} {time : Word}
    (h : ∀ w g, w.time = time → w.slip (some k) (some g.zone) = f w g) (gs : List Segment) {w : State} (hw : w.time = time) :
    gs.foldl (fun v g => v.slip (some k) (some g.zone)) w = gs.foldl f w := by
  induction gs generalizing w with
  | nil => rw [List.foldl_nil, List.foldl_nil]
  | cons g gs ih =>
    simp only [List.foldl_cons]
    rw [← h w g hw]
    exact ih (w := w.slip (some k) (some g.zone)) ((w.slip_leaves (some k) (some g.zone)).1.trans hw)

/-- R71: what a tail-off at a later stand leaves. -/
theorem State.forceCross_leaves {s v : State} {c : Schedule} {k : Stand} {f : State → Segment → State}
    (h : ∀ w g, w.time = s.time → w.slip (some k) (some g.zone) = f w g)
    (hv : ((s.trk.segs.filter (Segment.reaches c k)).drop 1).foldl f (s.forced c k) = v) :
    s.forceCross c k = { v with trk := { v.trk with q := s.trk.q.set k 0 } } ∧ (s.forceCross c k).trk.state =
      if 2 ≤ (s.trk.segs.filter (Segment.reaches c k)).length ∧ s.trk.state = .normal then .degraded else s.trk.state := by
  obtain ⟨-, q, state⟩ := State.slips_leave k ((s.trk.segs.filter (Segment.reaches c k)).drop 1) (s.forced c k)
  have several : (s.trk.segs.filter (Segment.reaches c k)).drop 1 ≠ [] ↔ 2 ≤ (s.trk.segs.filter (Segment.reaches c k)).length := by
    rw [ne_eq, List.drop_eq_nil_iff]
    exact Nat.not_le
  rw [s.forceCross_eq c k]
  rw [State.slips_eq h _ (w := s.forced c k) rfl, hv] at q state ⊢
  have q : v.trk.q = s.trk.q := q
  refine ⟨by rw [← q]; rfl, ?_⟩
  show v.trk.state = _
  rw [state]
  simp only [several]
  rfl

/-! ### The creation record closed -/

theorem State.closeCreation_empty {s : State} (h : s.trk.creation = none ∨ ∃ r, s.trk.creation = some r ∧ r.count = 0)
    (c : Schedule) (k : Stand) : s.closeCreation c k = { s with trk := { s.trk with creation := none, q := s.trk.q.set k 0 } } := by
  have empty : s.trk.creation.any (fun r => decide (1 ≤ r.count)) = false := by
    rcases h with closed | ⟨r, record, zero⟩
    · rw [closed]; rfl
    · rw [record, Option.any_some, zero]; rfl
  rw [State.closeCreation, empty]
  rfl

theorem State.closeCreation_counted {s : State} {r : Creation} (record : s.trk.creation = some r) (counted : 1 ≤ r.count)
    (c : Schedule) (k : Stand) : s.closeCreation c k = { s.create k c true with trk := { (s.create k c true).trk with
      creation := none, q := (s.create k c true).trk.q.set k 0 } } := by
  rw [State.closeCreation, record, Option.any_some, decide_eq_true counted]
  rfl

theorem State.trackTailOff_eq {s : State} {sn : StandSnap} {k : Stand} {c : Schedule} {e : StandEntry} (sched : sn.sched = some c)
    (entry : sn.entry = some e) (shut : s.trk.windows.get k = none) :
    s.trackTailOff sn k = if sn.entryPoint then s.closeCreation c k else s.forceCross c k := by
  rw [State.trackTailOff, State.loseHead, shut, sched, entry]
  rfl

/-! ### The drop of strip-present -/

/-- R108: a switch test charges no crossing. -/
theorem State.switchTest_crossings (s : State) : s.switchTest.comp.map (·.crossings) = s.comp.map (·.crossings) := by
  cases hp : s.stu.pending with
  | none => rw [State.switchTest_none hp]
  | some p =>
    obtain ⟨u, switched, eq⟩ := State.switchTest_eq hp
    have same : s.switchTest.comp = u.comp := by
      rw [eq]
      split
      · rw [u.completeChange_eq p]
      · rfl
    rw [same]
    by_cases working : ∃ x, s.comp = some x ∧ x.working = true
    · obtain ⟨x, hx, working⟩ := working
      obtain ⟨-, y, hy, from_, -⟩ := switched.charged x hx working
      rw [hy, hx, Option.map_some, Option.map_some, from_]
    · rw [(switched.later (fun x hx => Bool.eq_false_iff.mpr (fun w => working ⟨x, hx, w⟩))).1]

/-- R108: neither does a removal. -/
theorem State.removeOldest_crossings (s : State) (kind : Removal) (trip : Bool) (time : Word) :
    (s.removeOldest kind trip time).comp.map (·.crossings) = s.comp.map (·.crossings) := by
  cases segs : s.trk.segs with
  | nil => rw [State.removeOldest_empty segs]
  | cons g rest =>
    rw [State.removeOldest_eq segs, State.idleIfEmpty_eq, State.handedOn_eq]
    generalize (!(_ || _) : Bool) = e
    refine (State.switchTest_crossings _).trans ?_
    rw [State.dropIfLast_eq]
    show (s.reportedOn rest (g.stamped trip) e kind time).comp.map _ = _
    unfold State.reportedOn
    dsimp only
    generalize assess _ _ _ = a
    have monitored := State.monitor_frame { s with trk := { s.trk with segs := rest } } (g.stamped trip) a kind
    generalize State.monitor { s with trk := { s.trk with segs := rest } } (g.stamped trip) a kind = m at monitored ⊢
    have kept := m.raise_kept ⟨.segment, segmentSub (g.stamped trip) a.quality, some (g.stamped trip).zone, none⟩ time
    generalize m.raise _ _ = r at kept ⊢
    rw [r.report_frame]
    show r.comp.map _ = _
    rw [kept.comp, monitored]

/-- R75: what the removal of the segments that have crossed their whole path leaves, `n` being their number. -/
structure State.Dropped (n : Nat) (s t : State) : Prop where
  segs : t.trk.segs = s.trk.segs.dropWhile Segment.crossedAll
  creation : t.trk.creation = s.trk.creation
  crossings : t.comp.map (·.crossings) = s.comp.map (fun x => x.crossings + n)
  shed : s.Shed .stripEnd false n t
  none : n = 0 → t = s

theorem State.removeCrossed_dropped (fuel : Nat) (s : State) (h : s.trk.segs.length ≤ fuel) :
    s.Dropped (s.trk.segs.takeWhile Segment.crossedAll).length (State.removeCrossed fuel s) := by
  have stays {u : State} (segs : u.trk.segs.takeWhile Segment.crossedAll = []) (all : u.trk.segs.dropWhile Segment.crossedAll = u.trk.segs) :
      u.Dropped (u.trk.segs.takeWhile Segment.crossedAll).length u := by
    rw [segs]
    exact ⟨all.symm, rfl, rfl, .none rfl, fun _ => rfl⟩
  induction fuel generalizing s with
  | zero =>
    have empty := List.length_eq_zero_iff.mp (Nat.le_zero.mp h)
    exact stays (by rw [empty]; rfl) (by rw [empty]; rfl)
  | succ fuel ih =>
    cases segs : s.trk.segs with
    | nil =>
      have same : State.removeCrossed (fuel + 1) s = s := by rw [State.removeCrossed, segs]
      rw [same, ← segs]
      exact stays (by rw [segs]; rfl) (by rw [segs]; rfl)
    | cons g rest =>
      cases crossed : g.crossedAll with
      | false =>
        have same : State.removeCrossed (fuel + 1) s = s := by
          rw [State.removeCrossed, segs]
          exact if_neg (by rw [crossed]; exact Bool.false_ne_true)
        rw [same, ← segs]
        exact stays (by rw [segs, List.takeWhile_cons, crossed]; rfl) (by rw [segs, List.dropWhile_cons, crossed]; rfl)
      | true =>
        have removed : State.removeCrossed (fuel + 1) s = State.removeCrossed fuel ((s.chargeCrossings 1).removeOldest .stripEnd false s.time) := by
          rw [State.removeCrossed, segs]
          exact if_pos crossed
        rw [removed]
        have charged : (s.chargeCrossings 1).trk.segs = g :: rest := segs
        have popped := (s.chargeCrossings 1).removeOldest_popped .stripEnd false s.time
        have one := (State.removeOldest_shed (kind := .stripEnd) (trip := false) charged s.time).after (s := s) rfl
        have crossings := (s.chargeCrossings 1).removeOldest_crossings .stripEnd false s.time
        generalize (s.chargeCrossings 1).removeOldest .stripEnd false s.time = v at popped one crossings ⊢
        have left : v.trk.segs = rest := by rw [popped.segs, charged]; rfl
        have more := ih v (by rw [left]; rw [segs] at h; exact Nat.le_of_succ_le_succ h)
        rw [left] at more
        have count : ((g :: rest).takeWhile Segment.crossedAll).length = 1 + (rest.takeWhile Segment.crossedAll).length := by
          rw [List.takeWhile_cons, crossed]
          exact Nat.add_comm _ 1
        rw [count]
        refine ⟨?_, more.creation.trans popped.creation, ?_, ?_, fun h => absurd h (by omega)⟩
        · rw [more.segs, left, segs, List.dropWhile_cons, crossed]
          rfl
        · have charge (n : Nat) : v.comp.map (fun x => x.crossings + n) = (v.comp.map (·.crossings)).map (· + n) := by
            rw [Option.map_map]
            rfl
          rw [more.crossings, charge, crossings, State.chargeCrossings, Option.map_map, Option.map_map]
          congr 1
          funext x
          exact Nat.add_assoc _ _ _
        · by_cases last : (rest.takeWhile Segment.crossedAll).length = 0
          · rw [more.none last, last]
            exact one
          · exact one.next more.shed last

/-! ### Speed lost -/

/-- R58, R76: speed-lost, presented; a first presentation flushes. -/
theorem State.presentSpeedLost_leaves (s : State) (sn : Table 7 StandSnap) :
    let t := s.presentSpeedLost sn
    let lost := allStands.any (fun k => (sn.get k).entry.isSome && s.excluded .speed (some k))
    (t.trk.speedLost = true ↔ lost = true) ∧
    (¬ lost = true ∨ s.trk.speedLost = true → t = { s with trk := { s.trk with speedLost := t.trk.speedLost } }) ∧
    (lost = true → s.trk.speedLost = false → s.trk.state ≠ .lost →
      t.trk.state = .lost ∧ t.trk.segs = [] ∧ t.trk.creation = none ∧ (∀ j, t.trk.q.get j = 0) ∧ t.trk.qGauge = 0) := by
  intro t lost
  have isT : t = if lost && !s.trk.speedLost then State.enterLost { s with trk := { s.trk with speedLost := lost } } false s.time
      else { s with trk := { s.trk with speedLost := lost } } := rfl
  clear_value t lost
  by_cases flushes : (lost && !s.trk.speedLost) = true
  · rw [if_pos flushes] at isT
    obtain ⟨now, before⟩ := Bool.and_eq_true_iff.mp flushes
    have before : s.trk.speedLost = false := by simpa using before
    have moves := State.enterLost_moves (G := ofFlush) rfl { s with trk := { s.trk with speedLost := lost } } false s.time
    have speed : t.trk.speedLost = lost := by rw [isT, moves.flushed.trk]
    refine ⟨by rw [speed], fun quiet => ?_, fun _ _ tracked => ?_⟩
    · exact absurd now (quiet.resolve_right (by rw [before]; exact Bool.false_ne_true))
    · obtain ⟨state, segs, creation, q, qGauge⟩ :=
        State.enterLost_trk (s := { s with trk := { s.trk with speedLost := lost } }) tracked false s.time
      rw [isT, q]
      exact ⟨state, segs, creation, fun j => Table.get_fill _ _, qGauge⟩
  · rw [if_neg flushes] at isT
    refine ⟨by rw [isT], fun _ => by rw [isT], fun now before _ => absurd ?_ flushes⟩
    rw [now, before]
    rfl

/-- Settles O48: the tail-offs by forced crossings and by the record's close; a bar's start; the drop of strip-present by
induction on the segments that have crossed their path; speed-lost by whether it is presented now. -/
theorem barsBeginAndEnd : Obligations.BarsBeginAndEnd := by
  refine ⟨fun s sn k c e sched entry shut => ?_, fun s c k reuse => ?_, fun s => ?_, fun s sn => ?_⟩
  · intro t reaches reached slip
    have isT : t = if sn.entryPoint then s.closeCreation c k else s.forceCross c k := State.trackTailOff_eq sched entry shut
    refine ⟨fun later => ?_, fun entry => ⟨fun empty => ?_, fun r record counted => ⟨fun room => ?_, fun full tracked => ?_⟩⟩⟩
    · intro v
      have isForced : t = s.forceCross c k := by rw [isT, later]; rfl
      rw [isForced]
      exact State.forceCross_leaves (fun w g time => State.slip_eq time _ _) rfl
    · rw [isT, if_pos entry]
      exact State.closeCreation_empty empty c k
    · intro u
      obtain ⟨segs, q, -, -⟩ := State.create_leaves record room k c true
      rw [isT, if_pos entry, State.closeCreation_counted record counted, q]
      exact ⟨by rw [segs, List.length_append]; rfl, rfl⟩
    · obtain ⟨state, segs, -, q, -⟩ := State.enterLost_trk tracked false s.time
      rw [isT, if_pos entry, State.closeCreation_counted record counted, State.create_full record full, q]
      refine ⟨state, segs, rfl, fun j => ?_⟩
      show ((Table.fill 7 0).set k 0).get j = 0
      by_cases same : k = j
      · rw [same, Table.get_set_same]
      · rw [Table.get_set_other _ _ _ _ same, Table.get_fill]
  · intro told
    have telling (x : State) (time : x.time = s.time) : (if reuse then x.raiseTrack .reused none (some k) x.time else x) = told x := by
      rw [time]
      rfl
    refine ⟨fun lost speed => ?_, fun starts => ?_⟩
    · have both : s.trk.state = .lost ∧ s.trk.speedLost = true := ⟨lost, speed⟩
      rw [State.startBar, if_pos both]
      exact telling s rfl
    · have neither : ¬ (s.trk.state = .lost ∧ s.trk.speedLost = true) := fun ⟨lost, speed⟩ =>
        starts.elim (· lost) fun clear => Bool.false_ne_true (clear.symm.trans speed)
      rw [State.startBar, if_neg neither]
      exact telling (s.withTrk _) rfl
  · intro t crossed n
    have dropped := State.removeCrossed_dropped s.trk.segs.length s le_rfl
    have same : crossed = Segment.crossedAll := by
      funext g
      rw [Segment.crossedAll]
      exact (beq_eq_decide _ _).symm
    have count : (s.trk.segs.takeWhile Segment.crossedAll).length = n := by rw [← same]
    rw [count] at dropped
    refine ⟨same ▸ dropped.segs, rfl, dropped.creation, dropped.crossings, dropped.shed.counts, fun some => ?_⟩
    obtain ⟨l, last, kind, -⟩ := dropped.shed.last some
    exact ⟨l, last, kind⟩
  · intro t lost
    have any : (allStands.any (fun k => (sn.get k).entry.isSome && s.excluded .speed (some k))) = true ↔ lost := by
      simp only [List.any_eq_true, mem_allStands, true_and, Bool.and_eq_true, lost]
    obtain ⟨speed, quiet, flushed⟩ := s.presentSpeedLost_leaves sn
    refine ⟨speed.trans any, fun h => quiet (h.imp_left (mt any.mp)), fun now before tracked => flushed (any.mpr now) before tracked⟩

end Sys2Proof.Machine


/-! ## The gap law (R87 to R94, R99) -/

namespace Sys2Proof.Machine

open Safety

/-! ### Clamps and rounded terms -/

/-- R88, R89: a clamp on either side of zero keeps the sign, and is reached where it changes the value. -/
theorem clampAbs_cases (x : Nat) (v : Int) : (clampAbs x v).natAbs ≤ x ∧ (clampAbs x v ≠ v → (clampAbs x v).natAbs = x) ∧
    (0 ≤ v → 0 ≤ clampAbs x v) ∧ (v ≤ 0 → clampAbs x v ≤ 0) := by
  unfold clampAbs clampInt
  split
  · omega
  · split <;> omega

/-- R92, R94: a reference as it is recorded, and the flag of its clamp. -/
def Clamped (e : StandEntry) (r : Int) (ref : Ref) (range : Bool) : Prop := ∃ v : Int, ref = .um v ∧
  (e.sMin : Int) ≤ v ∧ v ≤ e.sMax ∧ (range = false → v = r) ∧
  (range = true → (v = e.sMax ∧ (e.sMax : Int) < r) ∨ (v = e.sMin ∧ r < e.sMin))

theorem clampedRef_clamped {e : StandEntry} (h : e.sMin < e.sMax) (r : Int) : Clamped e r (clampedRef e r) (outOfRange e r) := by
  have order : (e.sMin : Int) ≤ e.sMax := by omega
  obtain ⟨inside, below, above, within⟩ := rangeClamp_cases e r
  obtain ⟨least, most⟩ := within order
  refine ⟨rangeClamp e r, rfl, least, most, fun same => not_not.mp (of_decide_eq_false same), fun changed => ?_⟩
  have changed : rangeClamp e r ≠ r := of_decide_eq_true changed
  rcases lt_or_ge r e.sMin with low | low
  · exact .inr ⟨below low, low⟩
  · rcases lt_or_ge (e.sMax : Int) r with high | high
    · exact .inl ⟨above order high, high⟩
    · exact absurd (inside low high) changed

theorem Schedule.dummyOpen_within (c : Schedule) (k : Stand) : 0 ≤ c.dummyOpen k ∧ c.dummyOpen k ≤ 99999 :=
  clampInt_bounds _ (by decide)

/-- R88: the step before its clamp, to the nearest and against the deviation. -/
theorem rawStep_cases (e : StandEntry) (dev : Int) : 2 * (1024 * rawStep e dev + dev * e.kg).natAbs ≤ 1024 ∧
    (0 < dev → rawStep e dev ≤ 0) ∧ (dev < 0 → 0 ≤ rawStep e dev) := by
  obtain ⟨above, below, -⟩ := roundingIsToNearestHalfAway (dev * e.kg) 1024 (by decide)
  unfold rawStep
  generalize roundDiv (dev * e.kg) 1024 = q at above below ⊢
  have pos (h : 0 < dev) : 0 ≤ dev * e.kg := Int.mul_nonneg h.le (Int.natCast_nonneg _)
  have neg (h : dev < 0) : dev * e.kg ≤ 0 := Int.mul_nonpos_of_nonpos_of_nonneg h.le (Int.natCast_nonneg _)
  generalize dev * (e.kg : Int) = n at above below pos neg ⊢
  refine ⟨by omega, fun h => ?_, fun h => ?_⟩
  · have := pos h; omega
  · have := neg h; omega

/-- R91: the monitor share, to the nearest. -/
theorem monitorShare_nearest (e : StandEntry) (mi : Int) : 2 * (256 * monitorShare e mi - mi * e.share).natAbs ≤ 256 := by
  obtain ⟨above, below, -⟩ := roundingIsToNearestHalfAway (mi * e.share) 256 (by decide)
  unfold monitorShare
  omega

/-- R90: the feedforward of a thickness, to the nearest or at the clamp. -/
theorem feedforward_cases (e : StandEntry) (h t : Int) : (feedforward e h t).natAbs ≤ e.iMax ∧
    (2 * (1024 * feedforward e h t + (h - t) * e.kf).natAbs ≤ 1024 ∨ (feedforward e h t = e.iMax ∧ (h - t) * e.kf < 0) ∨
      (feedforward e h t = -(e.iMax : Int) ∧ 0 < (h - t) * e.kf)) := by
  obtain ⟨above, below, -⟩ := roundingIsToNearestHalfAway ((h - t) * e.kf) 1024 (by decide)
  unfold feedforward
  generalize (h - t) * (e.kf : Int) = n at above below ⊢
  generalize roundDiv n 1024 = q at above below ⊢
  unfold clampAbs clampInt
  split
  · omega
  · split <;> omega

/-! ### The segment in the bite -/

section
variable {t : Trk} {c : Schedule} {k p : Stand}

theorem Segment.reaches_from (prev : c.prevOf k = some p) (g : Segment) :
    g.reaches c k = true ↔ g.coilId = c.coilId ∧ g.list.getLast?.map (·.1) = some p := by
  rw [Segment.reaches_iff, prev]
  simp

theorem Trk.inBite_none (h : t.state = .lost ∨ c.prevOf k = none ∨
    (∀ g ∈ t.segs, g.coilId = c.coilId → g.list.getLast?.map (·.1) ≠ c.prevOf k)) : t.inBite c k = none := by
  unfold Trk.inBite
  split
  · rfl
  · next tracked =>
    rw [List.find?_eq_none]
    intro g mem reaches
    obtain ⟨coil, j, prev, last⟩ := (g.reaches_iff c k).mp reaches
    rcases h.resolve_left tracked with first | waits
    · exact nomatch first.symm.trans prev
    · exact waits g mem coil (last.trans prev.symm)

theorem Trk.inBite_some {before after : List Segment} {g : Segment} (tracked : t.state ≠ .lost) (segs : t.segs = before ++ g :: after)
    (prev : c.prevOf k = some p) (coil : g.coilId = c.coilId) (last : g.list.getLast?.map (·.1) = some p)
    (older : ∀ y ∈ before, y.coilId = c.coilId → y.list.getLast?.map (·.1) ≠ some p) : t.inBite c k = some g := by
  rw [Trk.inBite, if_neg tracked, segs, List.find?_eq_some_iff_append]
  refine ⟨(Segment.reaches_from prev g).mpr ⟨coil, last⟩, before, after, rfl, fun y mem => ?_⟩
  rw [Bool.not_eq_true', Bool.eq_false_iff]
  intro reaches
  obtain ⟨coil, last⟩ := (Segment.reaches_from prev y).mp reaches
  exact older y mem coil last

theorem Trk.feedforwardOf_none (h : t.inBite c k = none) (e : StandEntry) : t.feedforwardOf c e k = 0 := by
  rw [Trk.feedforwardOf, h]

theorem Trk.feedforwardOf_some {g : Segment} {pe : StandEntry} {thickness : Option Nat} (bite : t.inBite c k = some g)
    (prev : c.prevOf k = some p) (entry : c.entries.get p = some pe) (last : g.list.getLast? = some (p, thickness)) (e : StandEntry) :
    t.feedforwardOf c e k = thickness.elim 0 (fun h => feedforward e h pe.hTgt) := by
  rw [Trk.feedforwardOf, bite, prev, Option.bind_some, entry]
  dsimp only
  rw [last]
  cases thickness <;> rfl

theorem Trk.feedforwardOf_within (t : Trk) (c : Schedule) (e : StandEntry) (k : Stand) : (t.feedforwardOf c e k).natAbs ≤ e.iMax := by
  unfold Trk.feedforwardOf
  split
  · split
    · exact (feedforward_cases e _ _).1
    · exact Nat.zero_le _
  · exact Nat.zero_le _

end

/-! ### The law -/

section
variable {x : LawInput} {k : Stand} {c : Schedule} {e : StandEntry}

theorem formBefore_none (h : x.sched = none) : formBefore x k = formOut .openFull := by rw [formBefore, h]

theorem formBefore_dummied (sched : x.sched = some c) (entry : x.entry = none) :
    formBefore x k = formOut (.um (c.dummyOpen k)) := by rw [formBefore, sched, entry]

theorem formBefore_without (sched : x.sched = some c) (entry : x.entry = some e) (h : x.hgm = none) :
    formBefore x k = formWithout x c e k := by rw [formBefore, sched, entry]; dsimp only; rw [h]

theorem formBefore_with {h : Nat} (sched : x.sched = some c) (entry : x.entry = some e) (hgm : x.hgm = some h) :
    formBefore x k = formInMode x c e k h := by rw [formBefore, sched, entry]; dsimp only; rw [hgm]

theorem formBefore_inService (sched : x.sched = some c) (entry : x.entry = some e) :
    (formBefore x k).inService = true ∧ (formBefore x k).zone = x.trk.eventZone c k := by
  cases hgm : x.hgm with
  | none => rw [formBefore_without sched entry hgm]; exact ⟨rfl, rfl⟩
  | some h =>
    rw [formBefore_with sched entry hgm]
    unfold formInMode
    dsimp only
    split <;> exact ⟨rfl, rfl⟩

theorem formInMode_rests (h : Nat) (mode : x.mode = .position ∨ x.mode = .gaugeWait) : formInMode x c e k h =
    { computed := ⟨some h, some (h - hRef e x.hLock), some 0, some x.integrator, none, none⟩
      ref := clampedRef e (e.sSet + x.trim), candidate := 0, stepLimited := false, authority := false
      range := outOfRange e (e.sSet + x.trim), deviation := x.deviation, inService := true, zone := x.trk.eventZone c k } := by
  have rests : x.mode.driven = false := by rcases mode with h | h <;> rw [h] <;> rfl
  rw [formInMode, rests]
  rfl

theorem formInMode_holds (h : Nat) (mode : x.mode = .locking ∨ x.mode = .gaugeHeld) : formInMode x c e k h =
    let r := e.sSet + x.trim + x.integrator + x.trk.feedforwardOf c e k + monitorShare e x.mi
    { computed := ⟨some h, some (h - hRef e x.hLock), some 0, some x.integrator, some (x.trk.feedforwardOf c e k),
        some (monitorShare e x.mi)⟩
      ref := clampedRef e r, candidate := x.integrator, stepLimited := false, authority := false
      range := outOfRange e r, deviation := x.deviation, inService := true, zone := x.trk.eventZone c k } := by
  have driven : x.mode.driven = true := by rcases mode with h | h <;> rw [h] <;> rfl
  have held : (x.mode == .gauge) = false := by rcases mode with h | h <;> rw [h] <;> rfl
  have kept (r : Int) : antiWindup e r 0 x.integrator x.integrator = x.integrator := ite_self _
  rw [formInMode, driven, held]
  simp only [if_true, Bool.false_eq_true, if_false, kept, Bool.false_and]
  rfl

theorem formInMode_steps (h : Nat) (mode : x.mode = .gauge) : formInMode x c e k h =
    let dev : Int := h - hRef e x.hLock
    let u := gapStep e dev
    let i' := integrate e x.integrator u
    let r := e.sSet + x.trim + i' + x.trk.feedforwardOf c e k + monitorShare e x.mi
    { computed := ⟨some h, some dev, some u, some (antiWindup e r u x.integrator i'), some (x.trk.feedforwardOf c e k),
        some (monitorShare e x.mi)⟩
      ref := clampedRef e r, candidate := antiWindup e r u x.integrator i', stepLimited := decide (u ≠ rawStep e dev)
      authority := decide (i' ≠ x.integrator + u), range := outOfRange e r, deviation := x.deviation, inService := true
      zone := x.trk.eventZone c k } := by
  rw [formInMode, mode]
  rfl

/-- R92: the anti-windup by the side on which the reference was clamped. -/
theorem antiWindup_cases {r u i i' : Int} (order : e.sMin < e.sMax) :
    ((e.sMin : Int) ≤ r → r ≤ e.sMax → antiWindup e r u i i' = i') ∧
    ((e.sMax : Int) < r → antiWindup e r u i i' = if 0 < u then i else i') ∧
    (r < e.sMin → antiWindup e r u i i' = if u < 0 then i else i') := by
  unfold antiWindup
  refine ⟨fun least most => if_neg (by omega), fun high => ?_, fun low => ?_⟩
  · exact if_congr (by omega) rfl rfl
  · exact if_congr (by omega) rfl rfl

end

/-! ### The zone of an event -/

section
variable {t : Trk} {c : Schedule} {k : Stand}

theorem Trk.eventZone_lost (h : t.state = .lost) : t.eventZone c k = none := if_pos h

theorem Trk.eventZone_entry (tracked : t.state ≠ .lost) (entry : c.entryStand = some k) :
    t.eventZone c k = t.creation.map (fun r => zoneFor c (r.segCount + 1) (r.volume + c.vSeg)) := by
  rw [Trk.eventZone, if_neg tracked, if_pos entry]

theorem Trk.eventZone_later (tracked : t.state ≠ .lost) (later : c.entryStand ≠ some k) :
    t.eventZone c k = (t.inBite c k).map (·.zone) := by
  rw [Trk.eventZone, if_neg tracked, if_neg later]

end

/-- Settles O41: the rows of R93 and R94 by what the stand's schedule, entry and thickness are; the feedforward and the zone by
the segment in the bite; the rows of a switch by the new schedule's entry. -/
theorem gapLawFormsTheReference : Obligations.GapLawFormsTheReference := by
  intro x k f clamped quiet absent nothing opened
  have clamp {e : StandEntry} (order : e.sMin < e.sMax) (r : Int) : clamped e r (clampedRef e r) (outOfRange e r) :=
    clampedRef_clamped order r
  refine ⟨fun none => ?_, fun c sched entry => ?_, fun c e sched entry order => ⟨?_, fun gone => ?_, fun h hgm => ⟨?_, ?_⟩⟩,
    fun c e sched => ?_, fun c e sched entry => ?_, fun d => ?_⟩
  · rw [show f = _ from formBefore_none none]
    exact ⟨rfl, ⟨rfl, rfl, ⟨rfl, rfl⟩, rfl, rfl, rfl⟩, rfl⟩
  · rw [show f = _ from formBefore_dummied sched entry]
    exact ⟨⟨_, rfl, c.dummyOpen_within k⟩, ⟨rfl, rfl, ⟨rfl, rfl⟩, rfl, rfl, rfl⟩, rfl⟩
  · exact (formBefore_inService sched entry).1
  · rw [show f = _ from formBefore_without sched entry gone]
    exact ⟨clamp order _, ⟨rfl, rfl⟩, rfl, rfl, rfl⟩
  · rw [show f = _ from formBefore_with sched entry hgm]
    unfold formInMode
    dsimp only
    split <;> rfl
  · intro dev
    have isF : f = formInMode x c e k h := formBefore_with sched entry hgm
    rw [isF]
    refine ⟨fun rests => ?_, fun holds => ?_, fun gauge bounded => ?_⟩
    · rw [formInMode_rests h rests]
      exact ⟨clamp order _, ⟨rfl, rfl⟩, rfl, rfl⟩
    · rw [formInMode_holds h holds]
      exact ⟨_, _, clamp order _, ⟨rfl, rfl⟩, rfl, rfl, x.trk.feedforwardOf_within c e k, rfl, monitorShare_nearest e x.mi⟩
    · rw [formInMode_steps h gauge]
      obtain ⟨nearest, against, against'⟩ := rawStep_cases e dev
      obtain ⟨stepped, stepLimit, up, down⟩ := clampAbs_cases e.dStep (rawStep e dev)
      obtain ⟨integrated, authority, -, -⟩ := clampAbs_cases e.iMax (x.integrator + gapStep e dev)
      refine ⟨gapStep e dev, integrate e x.integrator (gapStep e dev), x.trk.feedforwardOf c e k, monitorShare e x.mi,
        rangeClamp e (e.sSet + x.trim + integrate e x.integrator (gapStep e dev) + x.trk.feedforwardOf c e k + monitorShare e x.mi), ?_⟩
      intro sum
      obtain ⟨inside, high, low⟩ := antiWindup_cases (r := sum) (u := gapStep e dev) (i := x.integrator)
        (i' := integrate e x.integrator (gapStep e dev)) order
      obtain ⟨v, ref, least, most, same, changed⟩ := clampedRef_clamped order sum
      obtain rfl : rangeClamp e sum = v := Ref.um.inj ref
      refine ⟨rfl, rfl, stepped, fun h => down (against h), fun h => up (against' h), fun free => ?_, fun limited => ?_,
        integrated, fun free => ?_, fun limited => ?_, ?_, x.trk.feedforwardOf_within c e k, rfl, monitorShare_nearest e x.mi,
        least, most, fun free => ?_, fun limited => ?_⟩
      · have unclamped : gapStep e dev = rawStep e dev := not_not.mp (of_decide_eq_false free)
        rw [unclamped]
        exact nearest
      · exact stepLimit (of_decide_eq_true limited)
      · exact not_not.mp (of_decide_eq_false free)
      · exact authority (of_decide_eq_true limited)
      · show (antiWindup e sum (gapStep e dev) x.integrator (integrate e x.integrator (gapStep e dev))).natAbs ≤ e.iMax
        unfold antiWindup
        split
        · exact bounded
        · exact integrated
      · have unclamped := same free
        exact ⟨unclamped, inside (by omega) (by omega)⟩
      · rcases changed limited with ⟨at_, over_⟩ | ⟨at_, under⟩
        · exact .inl ⟨at_, over_, high over_⟩
        · exact .inr ⟨at_, under, low under⟩
  · intro ff
    refine ⟨fun h => Trk.feedforwardOf_none (Trk.inBite_none h) e, ?_⟩
    intro before g after p pe thickness tracked segs prev entry coil last older
    have some : ff = thickness.elim 0 (fun h => feedforward e h pe.hTgt) := Trk.feedforwardOf_some
      (Trk.inBite_some tracked segs prev coil (by rw [last]; rfl) older) prev entry last e
    refine ⟨fun none => by rw [some, none]; rfl, fun v hv => ?_⟩
    intro drive
    rw [some, hv]
    exact feedforward_cases e v pe.hTgt
  · rw [(formBefore_inService sched entry).2]
    refine ⟨Trk.eventZone_lost, fun tracked entry => ?_, fun tracked later => ?_⟩
    · rw [Trk.eventZone_entry tracked entry]
      refine ⟨fun none => by rw [none]; rfl, fun r record => ?_⟩
      obtain ⟨few, past, within⟩ := zoneFor_cases c r.segCount (r.volume + c.vSeg)
      rw [record, Option.map_some]
      refine ⟨fun head => by rw [few head], fun many order => ?_⟩
      split
      · next tail => rw [past many order tail]
      · next body => rw [within many order (Nat.not_lt.mp body)]
    · rw [Trk.eventZone_later tracked later]
      refine ⟨fun none => ?_, fun before g after p segs prev coil last older => ?_⟩
      · rw [Trk.inBite_none (.inr none)]; rfl
      · rw [Trk.inBite_some tracked segs prev coil last older]; rfl
  · intro g
    have entered (e : StandEntry) (entry : d.entries.get k = some e) : g = { f with
        ref := clampedRef e e.sSet, candidate := 0, stepLimited := false, authority := false
        range := outOfRange e e.sSet, deviation := false } := by
      show formSwitched f d k = _
      rw [formSwitched, entry, ← Int.add_zero (e.sSet : Int)]
      rfl
    have left (gone : d.entries.get k = none) : g = { formOut (.um (d.dummyOpen k)) with inService := f.inService, zone := f.zone } := by
      show formSwitched f d k = _
      rw [formSwitched, gone]
    cases entry : d.entries.get k with
    | none =>
      rw [left entry]
      exact ⟨rfl, rfl, ⟨rfl, rfl⟩, rfl, rfl, nofun, fun _ => ⟨⟨_, rfl, d.dummyOpen_within k⟩, rfl, rfl⟩⟩
    | some e =>
      rw [entered e entry]
      refine ⟨rfl, rfl, ⟨rfl, rfl⟩, rfl, rfl, fun e' same order => ?_, nofun⟩
      obtain rfl := Option.some.inj same
      exact ⟨clamp order _, rfl⟩

end Sys2Proof.Machine


/-! ## The detections of a compute start -/

namespace Sys2Proof.Machine

open Safety

/-- R117, R129, R130: one change of TRP's content or one detection; `P` says how the present level causes may change. -/
inductive Sense (P : Present → Present → Prop) (s : State) : State → Prop
  | set (t : Trp) (latch : t.latch = s.trp.latch) (first : t.firstOut = s.trp.firstOut) (list : t.list = s.trp.list)
      (present : P s.trp.present t.present) : Sense P s (s.setTrp t)
  | detect (t : Trp) (c : Cause) (time : Word) (latch : t.latch = s.trp.latch) (first : t.firstOut = s.trp.firstOut)
      (list : t.list = s.trp.list) (present : P s.trp.present t.present) : Sense P s (s.detectFrom t c time)

/-- Several of them. -/
abbrev Senses (P : Present → Present → Prop) (s t : State) : Prop := Relation.ReflTransGen (Sense P) s t

/-- What detections leave alone: all but the latch with what goes with it. -/
structure State.Sensed (s t : State) : Prop where
  rest : t = { s with
    tripOut := t.tripOut, news := { s.news with trip := t.news.trip }
    irq := t.irq, irqSignals := t.irqSignals, cram := t.cram
    lnk := { s.lnk with runState := t.lnk.runState }
    stu := { s.stu with stands := t.stu.stands }
    trk := { s.trk with windows := t.trk.windows, tripFlush := t.trk.tripFlush }
    trp := t.trp, tripNumber := t.tripNumber }
  stands : ∀ k, t.stand k = { s.stand k with requested := (t.stand k).requested }

section
variable {P Q : Present → Present → Prop} {s t u : State}

theorem Sense.sensed (h : Sense P s t) : s.Sensed t := by
  have set (t : Trp) : s.Sensed (s.setTrp t) := by
    have frame := s.setTrp_frame t
    generalize s.setTrp t = u at frame
    rw [frame]
    exact ⟨rfl, fun _ => rfl⟩
  cases h with
  | set t => exact set t
  | detect t c time =>
    cases latch : s.trp.latch with
    | true => rw [State.detectFrom_latched s t c time latch]; exact set _
    | false =>
      have frame := State.detectFrom_clear latch t c time
      generalize s.detectFrom t c time = u at frame
      rw [frame]
      refine ⟨rfl, fun k => ?_⟩
      show (s.stu.stands.map (fun r => { r with requested := Requested.position })).get k = { s.stand k with
        requested := ((s.stu.stands.map (fun r => { r with requested := Requested.position })).get k).requested }
      rw [Table.get_map]
      rfl

theorem Sense.within (h : Sense P s t) : s.Within t := by
  cases h with
  | set t latch first list => exact State.setTrp_within latch first (by rw [list])
  | detect t c time latch first list => exact State.detectFrom_within latch first list c time

theorem Sense.present (h : Sense P s t) : P s.trp.present t.trp.present := by
  cases h with
  | set t latch first list present => rw [State.setTrp_trp]; exact present
  | detect t c time latch first list present =>
    cases clear : s.trp.latch with
    | true => rw [State.detectFrom_latched s t c time clear, State.setTrp_trp, Trp.listed_present]; exact present
    | false => rw [State.detectFrom_clear clear]; exact present

theorem Sense.mono (h : ∀ a b, P a b → Q a b) (g : Sense P s t) : Sense Q s t := by
  cases g with
  | set t latch first list present => exact .set t latch first list (h _ _ present)
  | detect t c time latch first list present => exact .detect t c time latch first list (h _ _ present)

theorem Senses.mono (h : ∀ a b, P a b → Q a b) (g : Senses P s t) : Senses Q s t := by
  induction g with
  | refl => exact .refl
  | tail _ step ih => exact ih.tail (step.mono h)

theorem Senses.foldl {α : Type} {f : State → α → State} (h : ∀ (s : State) a, Senses P s (f s a)) (l : List α) (s : State) :
    Senses P s (l.foldl f s) := by
  induction l generalizing s with
  | nil => exact .refl
  | cons a l ih => exact (h s a).trans (ih _)

theorem Senses.sensed (h : Senses P s t) : s.Sensed t := by
  induction h with
  | refl => exact ⟨rfl, fun _ => rfl⟩
  | tail _ step ih => exact ⟨by rw [step.sensed.rest, ih.rest], fun k => by rw [step.sensed.stands k, ih.stands k]⟩

theorem Senses.within (h : Senses P s t) : s.Within t := by
  induction h with
  | refl => exact .refl s
  | tail _ step ih => exact ih.trans step.within

theorem Senses.present (refl : ∀ a, P a a) (trans : ∀ a b c, P a b → P b c → P a c) (h : Senses P s t) :
    P s.trp.present t.trp.present := by
  induction h with
  | refl => exact refl _
  | tail _ step ih => exact trans _ _ _ ih step.present

theorem Senses.present_eq (h : Senses Eq s t) : t.trp.present = s.trp.present :=
  (h.present (fun _ => rfl) (fun _ _ _ => Eq.trans)).symm

/-! ### The detections one by one -/

theorem State.setTrp_senses {x : Trp} (latch : x.latch = s.trp.latch) (first : x.firstOut = s.trp.firstOut)
    (list : x.list = s.trp.list) (present : s.trp.present = x.present) : Senses Eq s (s.setTrp x) := .single (.set x latch first list present)

theorem State.detect_senses (s : State) (c : Cause) (time : Word) : Senses Eq s (s.detect c time) :=
  .single (.detect s.trp c time rfl rfl rfl rfl)

/-- R57: one node hands its NODE_LOST. -/
def State.detectNode (sn : Table 7 StandSnap) (s : State) (p : Node × Node) : State :=
  match s.losesNode sn p.1 p.2 with
  | none => s
  | some c => s.detect c s.time

theorem State.detectNodes_eq (s : State) (sn : Table 7 StandSnap) (before : List Node) :
    s.detectNodes sn before = (before.zip s.lnk.nodes).foldl (State.detectNode sn) s := rfl

theorem State.detectNode_senses (sn : Table 7 StandSnap) (s : State) (p : Node × Node) : Senses Eq s (State.detectNode sn s p) := by
  unfold State.detectNode
  split
  · exact .refl
  · exact s.detect_senses _ _

theorem State.detectNodes_senses (s : State) (sn : Table 7 StandSnap) (before : List Node) : Senses Eq s (s.detectNodes sn before) :=
  Senses.foldl (State.detectNode_senses sn) _ s

theorem State.setLinkSilent_sense (s : State) (b : Bool) :
    Sense (fun x y => y = { x with linkSilent := b }) s (s.setLinkSilent b) := by
  unfold State.setLinkSilent
  dsimp only
  split
  · exact .detect _ _ _ (by rfl) (by rfl) (by rfl) (by rfl)
  · exact .set _ (by rfl) (by rfl) (by rfl) (by rfl)

theorem State.setForceLimit_sense (s : State) (k : Stand) (b : Bool) :
    Sense (fun x y => y = { x with forceLimit := x.forceLimit.set k b }) s (s.setForceLimit k b) := by
  unfold State.setForceLimit
  dsimp only
  split
  · exact .detect _ _ _ (by rfl) (by rfl) (by rfl) (by rfl)
  · exact .set _ (by rfl) (by rfl) (by rfl) (by rfl)

/-- R121: the judgement of one stand's force touches no other level cause. -/
def Present.only (k : Stand) (x y : Present) : Prop := ∃ b, y = { x with forceLimit := x.forceLimit.set k b }

theorem State.judgeForce_senses (sn : Table 7 StandSnap) (s : State) (k : Stand) :
    Senses (Present.only k) s (State.judgeForce sn s k) := by
  have set (b : Bool) : Senses (Present.only k) s (s.setForceLimit k b) :=
    .single ((s.setForceLimit_sense k b).mono (fun _ _ h => ⟨b, h⟩))
  unfold State.judgeForce
  dsimp only
  split
  · exact set _
  · exact set _
  · exact set _
  · exact .refl

theorem State.sequenceCheck_senses (sn : Table 7 StandSnap) (windows : Table 7 (Option Window)) (s : State) (k : Stand) :
    Senses Eq s (State.sequenceCheck sn windows s k) := by
  have tail : Senses Eq s (s.seqTailOff k) := by
    unfold State.seqTailOff
    extract_lets v
    have judged : Senses Eq s v := by
      unfold v
      split
      · exact s.detect_senses _ _
      · exact .refl
    exact judged.trans (State.setTrp_senses rfl rfl rfl rfl)
  have head (c : Schedule) : Senses Eq s (s.seqHeadOn c windows k) := by
    unfold State.seqHeadOn
    split
    · exact .refl
    · extract_lets expected v
      have judged : Senses Eq s v := by
        unfold v
        split
        · exact .refl
        · exact s.detect_senses _ _
      split
      · exact judged
      · split
        · exact judged
        · split
          · exact judged.trans (State.setTrp_senses rfl rfl rfl rfl)
          · exact judged
  unfold State.sequenceCheck
  dsimp only
  split
  · exact .refl
  · exact tail
  · split
    · unfold State.armChecks
      split
      · exact .refl
      · exact State.setTrp_senses rfl rfl rfl rfl
    · split
      · exact head _
      · exact .refl

/-- R57, R120, R121, R124 to R128: the detections before the deviation tests. -/
def State.detected (s start : State) (sn : Table 7 StandSnap) : State :=
  let s := s.detectNodes sn start.lnk.nodes
  let s := s.setLinkSilent (decide (s.lnk.silence = 3))
  let s := allStands.foldl (State.judgeForce sn) s
  allStands.foldl (State.sequenceCheck sn start.trk.windows) s

theorem State.detected_senses (s start : State) (sn : Table 7 StandSnap) : Senses (fun _ _ => True) s (s.detected start sn) := by
  unfold State.detected
  extract_lets nodes silent forced
  have detects : Senses (fun _ _ => True) s nodes := (s.detectNodes_senses sn _).mono (fun _ _ _ => trivial)
  have silences : Senses (fun _ _ => True) nodes silent := .single ((nodes.setLinkSilent_sense _).mono (fun _ _ _ => trivial))
  have forces : Senses (fun _ _ => True) silent forced :=
    Senses.foldl (fun s k => (State.judgeForce_senses sn s k).mono (fun _ _ _ => trivial)) _ _
  exact ((detects.trans silences).trans forces).trans
    (Senses.foldl (fun s k => (State.sequenceCheck_senses sn _ s k).mono (fun _ _ _ => trivial)) _ _)

end

end Sys2Proof.Machine


/-! ## What a compute start leaves of the stands (R12 to R19, R85, R86) -/

namespace Sys2Proof.Machine

open Safety

/-! ### Work stand by stand -/

/-- Work that goes through the stands and touches at each its own part alone. -/
theorem foldl_own {σ β : Type} {f : σ → Stand → σ} {r : σ → Stand → β} {g : Stand → β → β}
    (own : ∀ s k, r (f s k) k = g k (r s k)) (other : ∀ s k j, j ≠ k → r (f s k) j = r s j)
    {ks : List Stand} (nodup : ks.Nodup) (s : σ) (j : Stand) : r (ks.foldl f s) j = if j ∈ ks then g j (r s j) else r s j := by
  induction ks generalizing s with
  | nil => exact (if_neg List.not_mem_nil).symm
  | cons k ks ih =>
    obtain ⟨new, nodup⟩ := List.nodup_cons.mp nodup
    rw [List.foldl_cons, ih nodup]
    by_cases same : j = k
    · subst same
      rw [if_neg new, if_pos List.mem_cons_self, own]
    · rw [other s k j same]
      simp only [List.mem_cons, same, false_or]

theorem foldl_allStands {σ β : Type} {f : σ → Stand → σ} {r : σ → Stand → β} {g : Stand → β → β}
    (own : ∀ s k, r (f s k) k = g k (r s k)) (other : ∀ s k j, j ≠ k → r (f s k) j = r s j) (s : σ) (j : Stand) :
    r (allStands.foldl f s) j = g j (r s j) := by
  rw [foldl_own own other (by decide) s j, if_pos (mem_allStands j)]

/-! ### Bites, lock-on, modes -/

/-- R18: the records of a stand after its lock-on step. -/
def lockedOn (p : StandSnap) (x : StandRec × GapRec) : StandRec × GapRec :=
  match p.entry with
  | none => x
  | some e =>
    let l := lockStep e.nLock x.1.bite p.fresh x.2.hLock x.1.lockCount x.1.lockSum p.hgm
    ({ x.1 with lockCount := l.1, lockSum := l.2.1 }, { x.2 with hLock := l.2.2 })

theorem State.lockOn_all (sn : Table 7 StandSnap) (s : State) (k : Stand) :
    ((allStands.foldl (State.lockOn sn) s).stand k, (allStands.foldl (State.lockOn sn) s).gapStand k) =
      lockedOn (sn.get k) (s.stand k, s.gapStand k) := by
  refine foldl_allStands (f := State.lockOn sn) (r := fun s k => (s.stand k, s.gapStand k)) (g := fun k => lockedOn (sn.get k))
    (fun s k => ?_) (fun s k j ne => ?_) s k
  · unfold State.lockOn lockedOn
    dsimp only
    cases (sn.get k).entry with
    | none => rfl
    | some e =>
      dsimp only
      rw [State.modifyGap_get, if_pos rfl]
      exact Prod.ext ((s.modifyStand_get k k _).trans (if_pos rfl)) rfl
  · unfold State.lockOn
    dsimp only
    split
    · rfl
    · rw [State.modifyGap_get, if_neg ne]
      exact Prod.ext ((s.modifyStand_get k j _).trans (if_neg ne)) rfl

/-- R12: what the bar-started flags leave alone. -/
structure State.Barred (s t : State) : Prop where
  rest : t = { s with stu := { s.stu with active := t.stu.active, pending := t.stu.pending } }
  active : t.stu.active.map (·.sched) = s.stu.active.map (·.sched)
  pending : t.stu.pending.map (·.sched) = s.stu.pending.map (·.sched)

theorem State.startBars_barred (p : Stand → Bool) (ks : List Stand) (s : State) :
    s.Barred (ks.foldl (fun s k => if p k then s.startSlotBar k else s) s) := by
  induction ks generalizing s with
  | nil => exact ⟨rfl, rfl, rfl⟩
  | cons k ks ih =>
    have one : s.Barred (if p k then s.startSlotBar k else s) := by
      split
      · unfold State.startSlotBar
        split
        · exact ⟨rfl, rfl, rfl⟩
        · exact ⟨rfl, by simp only [Option.map_map]; rfl, rfl⟩
        · exact ⟨rfl, rfl, by simp only [Option.map_map]; rfl⟩
      · exact ⟨rfl, rfl, rfl⟩
    have more := ih (if p k then s.startSlotBar k else s)
    simp only [List.foldl_cons]
    exact ⟨by rw [more.rest, one.rest], more.active.trans one.active, more.pending.trans one.pending⟩

/-- R13, R17 to R19: the stands with their bites, lock-on and modes. -/
def State.moded (s start : State) (sn : Table 7 StandSnap) : State :=
  State.deriveModes (allStands.foldl (State.lockOn sn)
    (allStands.foldl (fun s k => if (sn.get k).entryHeadOn then s.startSlotBar k else s) s.biteUpdate)) start sn

theorem State.settleStands_eq (s start : State) (sn : Table 7 StandSnap) :
    s.settleStands start sn = (s.moded start sn).detected start sn := rfl

/-- R13, R18, R19: the records of stand k after bite and lock-on. -/
def State.bittenLocked (s : State) (sn : Table 7 StandSnap) (k : Stand) : StandRec × GapRec :=
  lockedOn (sn.get k) ((s.stand k).bitten (s.biteOf k), (s.gapStand k).bitten (s.biteOf k))

/-- R13, R17 to R19: what bites, lock-on and modes leave. -/
structure State.Moded (s start : State) (sn : Table 7 StandSnap) (t : State) : Prop where
  rest : t = { s with
    stu := { s.stu with stands := t.stu.stands, active := t.stu.active, pending := t.stu.pending }
    gap := { s.gap with stands := t.gap.stands } }
  active : t.stu.active.map (·.sched) = s.stu.active.map (·.sched)
  pending : t.stu.pending.map (·.sched) = s.stu.pending.map (·.sched)
  stand : ∀ k, t.stand k = { (s.bittenLocked sn k).1 with
    effective := effectiveMode start.lnk.runState ((sn.get k).entry.map (·.nLock)) (start.stand k).requested
      (s.bittenLocked sn k).1.bite (s.bittenLocked sn k).1.lockCount (sn.get k).fresh }
  gap : ∀ k, t.gapStand k = (s.bittenLocked sn k).2

theorem State.lockOns_frame (sn : Table 7 StandSnap) (ks : List Stand) (s : State) : ks.foldl (State.lockOn sn) s = { s with
    stu := { s.stu with stands := (ks.foldl (State.lockOn sn) s).stu.stands }
    gap := { s.gap with stands := (ks.foldl (State.lockOn sn) s).gap.stands } } := by
  induction ks generalizing s with
  | nil => rfl
  | cons k ks ih =>
    have one : State.lockOn sn s k = { s with
        stu := { s.stu with stands := (State.lockOn sn s k).stu.stands }
        gap := { s.gap with stands := (State.lockOn sn s k).gap.stands } } := by
      unfold State.lockOn
      dsimp only
      split <;> rfl
    have more := ih (State.lockOn sn s k)
    simp only [List.foldl_cons]
    rw [more, one]

theorem State.moded_leaves (s start : State) (sn : Table 7 StandSnap) : s.Moded start sn (s.moded start sn) := by
  have barred := State.startBars_barred (fun k => (sn.get k).entryHeadOn) allStands s.biteUpdate
  unfold State.moded
  generalize allStands.foldl (fun s k => if (sn.get k).entryHeadOn then s.startSlotBar k else s) s.biteUpdate = b at barred ⊢
  have frame := State.lockOns_frame sn allStands b
  have locked (k : Stand) := State.lockOn_all sn b k
  generalize allStands.foldl (State.lockOn sn) b = l at frame locked ⊢
  have records (k : Stand) : (l.stand k, l.gapStand k) = s.bittenLocked sn k := by
    have stand : b.stand k = s.biteUpdate.stand k := by rw [barred.rest]; rfl
    have gap : b.gapStand k = s.biteUpdate.gapStand k := by rw [barred.rest]; rfl
    rw [locked k, stand, gap, State.biteUpdate_stand, State.biteUpdate_gapStand]
    rfl
  have stand (k : Stand) : l.stand k = (s.bittenLocked sn k).1 := congrArg Prod.fst (records k)
  have gap (k : Stand) : l.gapStand k = (s.bittenLocked sn k).2 := congrArg Prod.snd (records k)
  refine ⟨?_, ?_, ?_, fun k => ?_, gap⟩
  · rw [frame, barred.rest]
    rfl
  · show l.stu.active.map _ = _
    rw [frame]
    exact barred.active
  · show l.stu.pending.map _ = _
    rw [frame]
    exact barred.pending
  · rw [← stand k]
    exact Table.get_build _ _

/-! ### The deviation tests -/

/-- R101: the deviation test of stand k, on the count that stands. -/
def testOf (sn : Table 7 StandSnap) (latch : Bool) (k : Stand) (bite : Bite) (g : GapRec) : Nat × Bool :=
  deviationStep (sn.get k).entry bite latch g.rPrev (sn.get k).gap (sn.get k).force.1 g.devCount

/-- R101: the count of stand k after its test. -/
def State.tested (s : State) (sn : Table 7 StandSnap) (latch : Bool) (k : Stand) : State :=
  s.modifyGap k (fun g => { g with devCount := (testOf sn latch k (s.stand k).bite (s.gapStand k)).1 })

theorem State.deviationTest_eq (sn : Table 7 StandSnap) (latch : Bool) (x : State × Table 7 Bool) (k : Stand) :
    State.deviationTest sn latch x k =
      (if deviationTrips (sn.get k).entry (testOf sn latch k (x.1.stand k).bite (x.1.gapStand k))
        then (x.1.tested sn latch k).detect (.gapDeviation k) (x.1.tested sn latch k).time else x.1.tested sn latch k,
        x.2.set k (testOf sn latch k (x.1.stand k).bite (x.1.gapStand k)).2) := rfl

theorem State.deviationTest_senses (sn : Table 7 StandSnap) (latch : Bool) (x : State × Table 7 Bool) (k : Stand) :
    Senses Eq (x.1.tested sn latch k) (State.deviationTest sn latch x k).1 := by
  rw [State.deviationTest_eq]
  dsimp only
  split
  · exact State.detect_senses _ _ _
  · exact .refl

/-- R101, R102: what the deviation tests leave. -/
structure State.Tested (s t : State) : Prop where
  rest : t = { s with
    tripOut := t.tripOut, news := { s.news with trip := t.news.trip }
    irq := t.irq, irqSignals := t.irqSignals, cram := t.cram
    lnk := { s.lnk with runState := t.lnk.runState }
    stu := { s.stu with stands := t.stu.stands }
    gap := { s.gap with stands := t.gap.stands }
    trk := { s.trk with windows := t.trk.windows, tripFlush := t.trk.tripFlush }
    trp := t.trp, tripNumber := t.tripNumber }
  stand : ∀ k, t.stand k = { s.stand k with requested := (t.stand k).requested }

theorem State.deviationTests_tested (sn : Table 7 StandSnap) (latch : Bool) (ks : List Stand) (x : State × Table 7 Bool) :
    x.1.Tested (ks.foldl (State.deviationTest sn latch) x).1 := by
  induction ks generalizing x with
  | nil => exact ⟨rfl, fun _ => rfl⟩
  | cons k ks ih =>
    have sensed := (State.deviationTest_senses sn latch x k).sensed
    have more := ih (State.deviationTest sn latch x k)
    rw [List.foldl_cons]
    refine ⟨?_, fun j => ?_⟩
    · rw [more.rest, sensed.rest]
      rfl
    · rw [more.stand j, sensed.stands j]
      rfl

/-- R101: what the deviation test of stand k reads and writes. -/
def testPart (x : State × Table 7 Bool) (k : Stand) : Bite × GapRec × Bool := ((x.1.stand k).bite, x.1.gapStand k, x.2.get k)

/-- R101: what it makes of it. -/
def testedPart (sn : Table 7 StandSnap) (latch : Bool) (k : Stand) (z : Bite × GapRec × Bool) : Bite × GapRec × Bool :=
  (z.1, { z.2.1 with devCount := (testOf sn latch k z.1 z.2.1).1 }, (testOf sn latch k z.1 z.2.1).2)

section
variable (sn : Table 7 StandSnap) (latch : Bool) (x : State × Table 7 Bool) (k j : Stand)

theorem State.deviationTest_gapStand :
    (State.deviationTest sn latch x k).1.gapStand j = (x.1.tested sn latch k).gapStand j := by
  have sensed := (State.deviationTest_senses sn latch x k).sensed
  generalize (State.deviationTest sn latch x k).1 = t at sensed
  rw [sensed.rest]
  rfl

theorem State.deviationTest_bite : ((State.deviationTest sn latch x k).1.stand j).bite = (x.1.stand j).bite := by
  rw [(State.deviationTest_senses sn latch x k).sensed.stands j]
  rfl

theorem State.deviationTest_own : testPart (State.deviationTest sn latch x k) k = testedPart sn latch k (testPart x k) := by
  refine Prod.ext (State.deviationTest_bite sn latch x k k) (Prod.ext ?_ ?_)
  · show (State.deviationTest sn latch x k).1.gapStand k = _
    rw [State.deviationTest_gapStand, State.tested, State.modifyGap_get, if_pos rfl]
    rfl
  · rw [State.deviationTest_eq]
    exact Table.get_set_same _ _ _

theorem State.deviationTest_other (ne : j ≠ k) : testPart (State.deviationTest sn latch x k) j = testPart x j := by
  refine Prod.ext (State.deviationTest_bite sn latch x k j) (Prod.ext ?_ ?_)
  · show (State.deviationTest sn latch x k).1.gapStand j = _
    rw [State.deviationTest_gapStand, State.tested, State.modifyGap_get, if_neg ne]
    rfl
  · rw [State.deviationTest_eq]
    exact Table.get_set_other _ _ _ _ (Ne.symm ne)

end

theorem State.deviationTests_gap (sn : Table 7 StandSnap) (latch : Bool) (x : State × Table 7 Bool) (k : Stand) :
    let y := allStands.foldl (State.deviationTest sn latch) x
    let r := testOf sn latch k (x.1.stand k).bite (x.1.gapStand k)
    y.1.gapStand k = { x.1.gapStand k with devCount := r.1 } ∧ y.2.get k = r.2 := by
  have all : testPart (allStands.foldl (State.deviationTest sn latch) x) k = testedPart sn latch k (testPart x k) :=
    foldl_allStands (State.deviationTest_own sn latch) (State.deviationTest_other sn latch) x k
  obtain ⟨-, both⟩ := Prod.mk.inj all
  exact Prod.mk.inj both

/-! ### Before TRK's work -/

/-- R13 to R19, R101: what the stands' work leaves before TRK's. -/
structure State.Judged (start l : State) (x : State × Table 7 Bool) : Prop where
  comp : x.1.comp = l.comp
  active : x.1.stu.active.map (·.sched) = l.stu.active.map (·.sched)
  pending : x.1.stu.pending.map (·.sched) = l.stu.pending.map (·.sched)
  stand : ∀ k, x.1.stand k = { (l.bittenLocked l.snaps k).1 with
    effective := effectiveMode start.lnk.runState ((l.snaps.get k).entry.map (·.nLock)) (start.stand k).requested
      (l.bittenLocked l.snaps k).1.bite (l.bittenLocked l.snaps k).1.lockCount (l.snaps.get k).fresh
    requested := (x.1.stand k).requested }
  gap : ∀ k, let r := testOf l.snaps start.trp.latch k (l.bittenLocked l.snaps k).1.bite (l.bittenLocked l.snaps k).2
    x.1.gapStand k = { (l.bittenLocked l.snaps k).2 with devCount := r.1 } ∧ x.2.get k = r.2

theorem State.judged_leaves (start l : State) : start.Judged l (start.judged l) := by
  have moded := l.moded_leaves start l.snaps
  have detected := ((l.moded start l.snaps).detected_senses start l.snaps).sensed
  unfold State.judged
  rw [State.settleStands_eq]
  generalize l.moded start l.snaps = m at moded detected
  generalize m.detected start l.snaps = d at detected
  have tested := State.deviationTests_tested l.snaps start.trp.latch allStands (d, Table.fill 7 false)
  have gaps (k : Stand) := State.deviationTests_gap l.snaps start.trp.latch (d, Table.fill 7 false) k
  generalize allStands.foldl (State.deviationTest l.snaps start.trp.latch) (d, Table.fill 7 false) = x at tested gaps
  dsimp only at tested gaps
  have bite (k : Stand) : (d.stand k).bite = (l.bittenLocked l.snaps k).1.bite := by rw [detected.stands k, moded.stand k]
  have gap (k : Stand) : d.gapStand k = (l.bittenLocked l.snaps k).2 := by
    rw [← moded.gap k, detected.rest]
    rfl
  refine ⟨?_, ?_, ?_, fun k => ?_, fun k => ?_⟩
  · rw [tested.rest, detected.rest, moded.rest]
  · rw [← moded.active, tested.rest, detected.rest]
  · rw [← moded.pending, tested.rest, detected.rest]
  · rw [tested.stand k, detected.stands k, moded.stand k]
  · have both := gaps k
    rw [bite, gap] at both
    exact both

end Sys2Proof.Machine


/-! ## Switches within a computation (R9, R10, R86) -/

namespace Sys2Proof.Machine

open Safety

/-! ### The cascade of one computation -/

/-- R9 to R11, R20: the stands from the state `a` on, where the work of a computation that has switched none of them begins, `y`
being that computation. -/
structure State.Cascaded (a t : State) (y : Computation) : Prop where
  comp : t.comp = some y
  working : y.working = true
  slots : t.stu.pending = a.stu.pending ∨ t.stu.pending = none
  stays : ∀ k, y.switched.get k = false →
    t.stand k = { a.stand k with requested := (t.stand k).requested, use := (t.stand k).use } ∧
    ((t.stand k).use = (a.stand k).use ∨ (t.stand k).use = .active) ∧ t.gapStand k = a.gapStand k
  switches : ∀ k, y.switched.get k = true →
    t.stand k = { (a.stand k).switched with requested := (t.stand k).requested, use := (t.stand k).use } ∧
    t.gapStand k = (a.gapStand k).switched ∧ ∃ p, a.stu.pending = some p ∧
      ((t.stand k).use = .pending ∧ t.stu.pending = some p ∨ (t.stand k).use = .active ∧ t.stu.active = some p)

section
variable {a s t : State} {y : Computation}

/-- What touches neither stands, slots nor computation but the requested modes. -/
theorem State.Cascaded.of_same (h : a.Cascaded s y) (comp : t.comp = s.comp) (active : t.stu.active = s.stu.active)
    (pending : t.stu.pending = s.stu.pending) (stand : ∀ k, t.stand k = { s.stand k with requested := (t.stand k).requested })
    (gap : ∀ k, t.gapStand k = s.gapStand k) : a.Cascaded t y := by
  have use (k : Stand) : (t.stand k).use = (s.stand k).use := by rw [stand k]
  refine ⟨comp.trans h.comp, h.working, by rw [pending]; exact h.slots, fun k no => ?_, fun k yes => ?_⟩
  · obtain ⟨record, uses, kept⟩ := h.stays k no
    refine ⟨by rw [stand k, record], by rw [use]; exact uses, (gap k).trans kept⟩
  · obtain ⟨record, kept, slot⟩ := h.switches k yes
    refine ⟨by rw [stand k, record], (gap k).trans kept, ?_⟩
    rw [use, pending, active]
    exact slot

/-- R10: one switch more. -/
theorem State.Cascaded.switch (h : a.Cascaded s y) {p : HeldSchedule} (pending : s.stu.pending = some p) (k : Stand) :
    a.Cascaded (s.switchOne p k) { y with switches := y.switches + 1, switched := y.switched.set k true } := by
  have isPending : a.stu.pending = some p := (h.slots.resolve_right (by rw [pending]; exact Option.some_ne_none p)).symm.trans pending
  have eq := State.switchOne_eq p s k
  rw [State.chargeSwitch_working h.comp h.working] at eq
  generalize s.switchOne p k = t at eq
  have stand (j : Stand) : t.stand j = if j = k then (s.stand j).switched else s.stand j := by
    rw [eq]
    exact Table.get_modify _ _ _ _
  have gap (j : Stand) : t.gapStand j = if j = k then (s.gapStand j).switched else s.gapStand j := by
    rw [eq]
    exact Table.get_modify _ _ _ _
  have slots : t.stu.pending = s.stu.pending ∧ t.stu.active = s.stu.active := by rw [eq]; exact ⟨rfl, rfl⟩
  refine ⟨by rw [eq], h.working, by rw [slots.1]; exact h.slots, fun j no => ?_, fun j yes => ?_⟩
  · have other : j ≠ k := fun same => by
      subst same
      exact Bool.false_ne_true (no.symm.trans (Table.get_set_same _ _ _))
    rw [stand, gap, if_neg other, if_neg other]
    exact h.stays j ((Table.get_set_other _ _ _ _ (Ne.symm other)).symm.trans no)
  · by_cases same : j = k
    · subst same
      have before : (s.stand j).switched = { (a.stand j).switched with
          requested := (s.stand j).switched.requested, use := (s.stand j).switched.use } ∧
          (s.gapStand j).switched = (a.gapStand j).switched := by
        cases was : y.switched.get j with
        | false =>
          obtain ⟨record, -, kept⟩ := h.stays j was
          rw [kept, record]
          exact ⟨rfl, rfl⟩
        | true =>
          obtain ⟨record, kept, -⟩ := h.switches j was
          rw [kept, record]
          exact ⟨rfl, rfl⟩
      rw [stand, gap, if_pos rfl, if_pos rfl, slots.1]
      exact ⟨before.1, before.2, p, isPending, .inl ⟨rfl, pending⟩⟩
    · rw [stand, gap, if_neg same, if_neg same, slots.1, slots.2]
      exact h.switches j ((Table.get_set_other _ _ _ _ (Ne.symm same)).symm.trans yes)

/-- R11: the coil change completes. -/
theorem State.Cascaded.change (h : a.Cascaded s y) {p : HeldSchedule} (pending : s.stu.pending = some p)
    (active : t.stu.active = some p) (none : t.stu.pending = none) (comp : t.comp = s.comp)
    (stand : ∀ k, t.stand k = { s.stand k with use := .active }) (gap : ∀ k, t.gapStand k = s.gapStand k) : a.Cascaded t y := by
  have isPending : a.stu.pending = some p := (h.slots.resolve_right (by rw [pending]; exact Option.some_ne_none p)).symm.trans pending
  refine ⟨comp.trans h.comp, h.working, .inr none, fun k no => ?_, fun k yes => ?_⟩
  · obtain ⟨record, -, kept⟩ := h.stays k no
    rw [stand k, record]
    exact ⟨rfl, .inr rfl, (gap k).trans kept⟩
  · obtain ⟨record, kept, -⟩ := h.switches k yes
    rw [stand k, record]
    exact ⟨rfl, (gap k).trans kept, p, isPending, .inr ⟨rfl, active⟩⟩

/-- R31: crossings are charged. -/
theorem State.Cascaded.cross (h : a.Cascaded s y) (n : Nat) :
    a.Cascaded (s.chargeCrossings n) { y with crossings := y.crossings + n } :=
  ⟨by rw [State.chargeCrossings, h.comp]; rfl, h.working, h.slots, h.stays, h.switches⟩

theorem Move.cascaded {G : EventGroup → Prop} (move : Move G s t) (h : a.Cascaded s y) : ∃ z, a.Cascaded t z := by
  cases move with
  | detect c time =>
    have heard := s.detect_hears c time
    generalize s.detect c time = t at heard
    exact ⟨y, h.of_same (by rw [heard.rest]) (by rw [heard.rest]) (by rw [heard.rest]) heard.stands (fun k => by rw [heard.rest]; rfl)⟩
  | coil id ofTrack =>
    unfold State.coilCreated
    split
    · exact ⟨y, h⟩
    · exact ⟨y, h.of_same rfl rfl rfl (fun _ => rfl) (fun _ => rfl)⟩
  | switch p k pending unused => exact ⟨_, h.switch pending k⟩
  | change p pending =>
    exact ⟨y, h.change pending rfl rfl rfl (fun k => Table.get_map _ _ _) (fun _ => rfl)⟩
  | cross n => exact ⟨_, h.cross n⟩
  | _ => exact ⟨y, h.of_same rfl rfl rfl (fun _ => rfl) (fun _ => rfl)⟩

theorem Moves.cascaded {G : EventGroup → Prop} (moves : Moves G a t) {x : Computation} (hx : a.comp = some x) (working : x.working = true)
    (none : ∀ k, x.switched.get k = false) : ∃ y, a.Cascaded t y := by
  induction moves with
  | refl => exact ⟨x, hx, working, .inl rfl, fun k _ => ⟨rfl, .inl rfl, rfl⟩,
      fun k yes => absurd ((none k).symm.trans yes) Bool.false_ne_true⟩
  | tail _ step ih =>
    obtain ⟨y, h⟩ := ih
    exact step.cascaded h

end

end Sys2Proof.Machine


/-! ## The stands at a compute start (R85, R86) -/

namespace Sys2Proof.Machine

open Safety

theorem StandRec.bitten_eq (r : StandRec) (b : Bite × Nat × BiteChange) : r.bitten b = { r with
    bite := b.1, debounce := b.2.1
    lockCount := if b.2.2 = .tailOff then 0 else r.lockCount, lockSum := if b.2.2 = .tailOff then 0 else r.lockSum } := by
  unfold StandRec.bitten
  split <;> rfl

theorem GapRec.bitten_eq (g : GapRec) (b : Bite × Nat × BiteChange) : g.bitten b = { g with
    integrator := if b.2.2 = .tailOff then 0 else g.integrator, hLock := if b.2.2 = .tailOff then none else g.hLock } := by
  unfold GapRec.bitten
  split <;> rfl

/-- R18: a stand locks on. -/
def Locks (p : StandSnap) (x : StandRec × GapRec) : Prop :=
  ∃ e h, p.entry = some e ∧ p.hgm = some h ∧ 0 < e.nLock ∧ x.1.bite = .loaded ∧ p.fresh = true ∧ x.2.hLock = none

/-- R18: the lock-on step of a stand. -/
theorem lockedOn_cases (p : StandSnap) (x : StandRec × GapRec) : ∃ count sum lock,
    lockedOn p x = ({ x.1 with lockCount := count, lockSum := sum }, { x.2 with hLock := lock }) ∧
    (¬ Locks p x → count = x.1.lockCount ∧ sum = x.1.lockSum ∧ lock = x.2.hLock) ∧
    (Locks p x → count = x.1.lockCount + 1 ∧ sum = x.1.lockSum + p.hgm.getD 0 ∧
      lock = p.entry.bind (fun e => if e.nLock ≤ x.1.lockCount + 1 then (meanOf sum e.nLock).map Int.ofNat else none)) := by
  cases entry : p.entry with
  | none =>
    exact ⟨_, _, _, by rw [lockedOn, entry], fun _ => ⟨rfl, rfl, rfl⟩, fun ⟨e, _, same, _⟩ => nomatch entry.symm.trans same⟩
  | some e =>
    refine ⟨_, _, _, by rw [lockedOn, entry], fun rests => ?_, fun ⟨e', h, same, hgm, positive, loaded, fresh, unlocked⟩ => ?_⟩
    · unfold lockStep
      split
      · exact ⟨rfl, rfl, rfl⟩
      · next h hgm =>
        rw [if_neg]
        · exact ⟨rfl, rfl, rfl⟩
        · exact fun ⟨positive, loaded, fresh, unlocked⟩ => rests ⟨e, h, entry, hgm, positive, loaded, fresh, unlocked⟩
    · obtain rfl : e = e' := Option.some.inj (entry.symm.trans same)
      have all : 0 < e.nLock ∧ x.1.bite = .loaded ∧ p.fresh = true ∧ x.2.hLock = none := ⟨positive, loaded, fresh, unlocked⟩
      rw [hgm]
      unfold lockStep
      dsimp only
      rw [if_pos all, Option.bind_some, Option.getD_some]
      split <;> exact ⟨rfl, rfl, rfl⟩

theorem State.deferredModeOrder_none {s : State} (h : ∀ t, s.ord.taken = some t → t.kind ≠ .setMode ∧ t.kind ≠ .operatorTrim) :
    s.deferredModeOrder = s := by
  unfold State.deferredModeOrder
  split
  · rfl
  · next t taken =>
    obtain ⟨mode, trim⟩ := h t taken
    split
    · next kind => exact absurd kind mode
    · next kind => exact absurd kind trim
    · rfl

section
variable {s t : State}

theorem State.reading_congr (h : t.lnk.nodes = s.lnk.nodes) (role : Role) (k : Option Stand) : t.reading role k = s.reading role k := by
  unfold State.reading State.nodeFor
  rw [h]

theorem State.biteOf_congr (nodes : t.lnk.nodes = s.lnk.nodes) {k : Stand} (entry : t.entryOf k = s.entryOf k)
    (bite : (t.stand k).bite = (s.stand k).bite) (debounce : (t.stand k).debounce = (s.stand k).debounce) : t.biteOf k = s.biteOf k := by
  unfold State.biteOf
  dsimp only
  rw [State.reading_congr nodes, entry, bite, debounce]

end

/-- R86, R93, R94: what GAP forms for a stand, by whether the computation has switched it. -/
theorem State.formStand_cases {s : State} {y : Computation} (h : s.comp = some y) (inputs : Table 7 LawInput) (k : Stand) :
    (y.switched.get k = false → s.formStand inputs k = formBefore (inputs.get k) k) ∧
    ∀ d, y.switched.get k = true → s.schedOf k = some d → s.formStand inputs k = formSwitched (formBefore (inputs.get k) k) d k := by
  unfold State.formStand
  rw [h]
  refine ⟨fun no => ?_, fun d yes sched => ?_⟩
  · cases s.schedOf k with
    | none => rfl
    | some d => exact if_neg (by rw [no]; exact Bool.false_ne_true)
  · rw [sched]
    exact if_pos yes

/-! ### The whole compute start -/

/-- R17: the effective mode of stand k, `start` being the state at the compute start, `l` that with LNK's work done. -/
def State.modeOf (start l : State) (k : Stand) : Effective :=
  effectiveMode start.lnk.runState ((l.snaps.get k).entry.map (·.nLock)) (start.stand k).requested
    (l.bittenLocked l.snaps k).1.bite (l.bittenLocked l.snaps k).1.lockCount (l.snaps.get k).fresh

/-- R101: the deviation test of stand k. -/
def State.testedOf (start l : State) (k : Stand) : Nat × Bool :=
  testOf l.snaps start.trp.latch k (l.bittenLocked l.snaps k).1.bite (l.bittenLocked l.snaps k).2

/-- R85: GAP's inputs of stand k. -/
def State.inputOf (start l : State) (k : Stand) : LawInput :=
  { sched := (l.snaps.get k).sched, entry := (l.snaps.get k).entry, hgm := (l.snaps.get k).hgm, mode := start.modeOf l k
    trim := (l.bittenLocked l.snaps k).1.trim, hLock := (l.bittenLocked l.snaps k).2.hLock
    integrator := (l.bittenLocked l.snaps k).2.integrator, mi := start.gap.mi, trk := start.trk
    deviation := (start.testedOf l k).2 }

/-- R12 to R19, R86, R95: what a compute start leaves of stand k, `x` being its computation. -/
structure State.StandLeft (start l t : State) (x : Computation) (k : Stand) : Prop where
  stays : x.switched.get k = false →
    t.stand k = { (l.bittenLocked l.snaps k).1 with
      effective := start.modeOf l k, requested := (t.stand k).requested, use := (t.stand k).use } ∧
    ((t.stand k).use = (l.bittenLocked l.snaps k).1.use ∨ (t.stand k).use = .active) ∧
    t.gapStand k = { (l.bittenLocked l.snaps k).2 with devCount := (start.testedOf l k).1 } ∧
    x.formed.get k = formBefore (start.inputOf l k) k
  switches : x.switched.get k = true →
    t.stand k = { (l.bittenLocked l.snaps k).1.switched with
      effective := start.modeOf l k, requested := (t.stand k).requested, use := (t.stand k).use } ∧
    t.gapStand k = { (l.bittenLocked l.snaps k).2.switched with devCount := (start.testedOf l k).1 } ∧
    ∃ d, l.stu.pending.map (·.sched) = some d ∧ t.schedOf k = some d ∧
      x.formed.get k = formSwitched (formBefore (start.inputOf l k) k) d k

theorem lawInput_of_judged {start l : State} {x : State × Table 7 Bool} (h : start.Judged l x) (k : Stand) :
    lawInput start x.1 l.snaps x.2 k = start.inputOf l k := by
  obtain ⟨gap, raised⟩ := h.gap k
  rw [lawInput, h.stand k, gap, raised]
  rfl

theorem State.computeStart_stands {s : State} (order : s.deferredModeOrder = s) (c : Cycle) :
    ∃ x, (s.computeStart c).comp = some x ∧ ∀ k, s.StandLeft (s.linkedIn c) (s.computeStart c) x k := by
  have equation := s.computeStart_eq c
  rw [order] at equation
  rw [equation]
  obtain ⟨out, opened⟩ := (s.linkedIn_leaves c).comp
  generalize stripDropped _ _ = drop
  generalize s.linkedIn c = l at opened ⊢
  have judged := s.judged_leaves l
  have input : lawInput s (s.judged l).1 l.snaps (s.judged l).2 = s.inputOf l := funext fun k => lawInput_of_judged judged k
  rw [input]
  generalize s.judged l = j at judged ⊢
  obtain ⟨y, left⟩ := (j.1.track_moves (G := ofTracking) (.inl rfl) (.inr rfl) l.snaps drop).cascaded
    (judged.comp.trans opened) rfl (fun k => Table.get_fill _ _)
  generalize j.1.track l.snaps drop = w at left ⊢
  have closed := State.closeWork_comp left.comp l.snaps (Table.build (s.inputOf l))
  refine ⟨_, closed, fun k => ?_⟩
  obtain ⟨before, after⟩ := State.formStand_cases left.comp (Table.build (s.inputOf l)) k
  rw [Table.get_build] at before after
  obtain ⟨gap, -⟩ := judged.gap k
  have stand := judged.stand k
  have stands : (w.closeWork l.snaps (Table.build (s.inputOf l))).stand k = w.stand k := rfl
  have gaps : (w.closeWork l.snaps (Table.build (s.inputOf l))).gapStand k = w.gapStand k := rfl
  have scheds : (w.closeWork l.snaps (Table.build (s.inputOf l))).schedOf k = w.schedOf k := rfl
  generalize w.closeWork l.snaps (Table.build (s.inputOf l)) = t at stands gaps scheds ⊢
  refine ⟨fun no => ?_, fun yes => ?_⟩
  · obtain ⟨record, use, kept⟩ := left.stays k no
    rw [stands, gaps, kept, gap, Table.get_build]
    rw [stand] at use
    refine ⟨?_, use, rfl, before no⟩
    rw [record, stand]
    rfl
  · obtain ⟨record, kept, p, pending, slot⟩ := left.switches k yes
    have sched : w.schedOf k = some p.sched := by
      rw [State.schedOf]
      rcases slot with ⟨use, held⟩ | ⟨use, held⟩
      · rw [use, State.slotOf, held]; rfl
      · rw [use, State.slotOf, held]; rfl
    rw [stands, gaps, scheds, kept, gap, Table.get_build]
    refine ⟨?_, rfl, p.sched, ?_, sched, after p.sched yes sched⟩
    · rw [record, stand]
      rfl
    · rw [← judged.pending, pending]
      rfl

/-- R50, R85: what the stands' work reads with LNK's work done is what it would read with the nodes alone settled. -/
structure State.Reads (m l : State) (k : Stand) : Prop where
  sched : l.schedOf k = m.schedOf k
  entry : l.entryOf k = m.entryOf k
  reading : ∀ role, l.reading role (some k) = m.reading role (some k)
  bite : l.biteOf k = m.biteOf k

theorem State.linkedIn_reads {s m : State} {c : Cycle} (nodes : m.lnk.nodes = s.settledNodes c) (stu : m.stu = s.stu) (k : Stand) :
    State.Reads m (s.linkedIn c) k := by
  have linked := s.linkedIn_leaves c
  generalize s.linkedIn c = l at linked
  have stand : l.stand k = { m.stand k with requested := (l.stand k).requested } := by
    have before : m.stand k = s.stand k := by rw [State.stand, stu]; rfl
    rw [before]
    exact linked.stands k
  have same : l.lnk.nodes = m.lnk.nodes := by rw [linked.rest, nodes]
  have entries := State.entryOf_congr (s := m) (t := l) (by rw [linked.rest, stu]) (by rw [linked.rest, stu]) (k := k) (by rw [stand])
  exact ⟨entries.1, entries.2, fun role => State.reading_congr same role _,
    State.biteOf_congr same entries.2 (by rw [stand]) (by rw [stand])⟩

theorem State.Reads.snap {m l : State} {k : Stand} (h : State.Reads m l k) : (l.snaps.get k).entry = m.entryOf k ∧
    (l.snaps.get k).gap = m.reading .gap (some k) ∧ (l.snaps.get k).force = m.reading .force (some k) ∧
    (l.snaps.get k).change = (m.biteOf k).2.2 := by
  rw [show l.snaps.get k = l.snap k from Table.get_build _ _]
  exact ⟨h.entry, h.reading .gap, h.reading .force, congrArg (·.2.2) h.bite⟩

/-- R85: h_gm of a stand, present with its schedule entry, its S and its F. -/
def gaugemeterOf (e : Option StandEntry) (gap force : Option Nat) : Option Nat :=
  match e, gap, force with
  | some e, some v, some f => some (gaugemeter e v f)
  | _, _, _ => none

theorem State.snap_hgm (s : State) (k : Stand) : (s.snap k).hgm =
    gaugemeterOf (s.entryOf k) (s.reading .gap (some k)).1 (s.reading .force (some k)).1 := rfl

theorem State.Reads.snap_hgm {m l : State} {k : Stand} (h : State.Reads m l k) : (l.snaps.get k).hgm =
    gaugemeterOf (m.entryOf k) (m.reading .gap (some k)).1 (m.reading .force (some k)).1 := by
  rw [show l.snaps.get k = l.snap k from Table.get_build _ _, State.snap_hgm, h.entry, h.reading, h.reading]

/-- Settles O33: the stands' work on what LNK leaves, then what the cascade within TRK's work makes of the stands it switches. -/
theorem computeStartSettlesTheStands : Obligations.ComputeStartSettlesTheStands := by
  intro s c timing m settled hc ht now due started idle first none
  have order : (s.starting c).deferredModeOrder = s.starting c := State.deferredModeOrder_none none
  obtain ⟨x, comp, left⟩ := State.computeStart_stands order c
  refine ⟨_, x, exec_replyDeadline_begins settled hc ht now due started idle first, comp, fun k => ?_⟩
  have reads := State.linkedIn_reads (s := s.starting c) (m := m) (c := c) rfl rfl k
  have linked := (s.starting c).linkedIn_leaves c
  have left := left k
  intro r g e gap force bite off fresh hgm hLock locks count sum dev t' kept input
  generalize (s.starting c).linkedIn c = l at reads linked left
  have pending : l.stu.pending = s.stu.pending := by rw [linked.rest]; rfl
  have stand : l.stand k = { r with requested := (l.stand k).requested } := linked.stands k
  have gaps : l.gapStand k = g := by rw [linked.rest]; rfl
  obtain ⟨snapEntry, snapGap, snapForce, -⟩ := reads.snap
  change _ = e at snapEntry
  change _ = gap at snapGap
  change _ = force at snapForce
  have snap : l.snaps.get k = l.snap k := Table.get_build _ _
  have snapSched : (l.snaps.get k).sched = m.schedOf k := by rw [snap]; exact reads.sched
  have snapFresh : (l.snaps.get k).fresh = fresh := by rw [StandSnap.fresh, snapGap, snapForce]
  have snapHgm : (l.snaps.get k).hgm = hgm := reads.snap_hgm
  have bitten : ((l.stand k).bitten (l.biteOf k), (l.gapStand k).bitten (l.biteOf k)) =
      ({ r with requested := (l.stand k).requested, bite := bite, debounce := (m.biteOf k).2.1, lockCount := count, lockSum := sum },
        { g with integrator := if off then 0 else g.integrator, hLock := hLock }) := by
    rw [StandRec.bitten_eq, GapRec.bitten_eq, stand, gaps, reads.bite]
  obtain ⟨count', sum', lock', records, rests, locked⟩ := lockedOn_cases (l.snaps.get k)
    ((l.stand k).bitten (l.biteOf k), (l.gapStand k).bitten (l.biteOf k))
  have eq : l.bittenLocked l.snaps k = _ := records
  rw [bitten] at eq rests locked
  have locking : Locks (l.snaps.get k)
      ({ r with requested := (l.stand k).requested, bite := bite, debounce := (m.biteOf k).2.1, lockCount := count, lockSum := sum },
        { g with integrator := if off then 0 else g.integrator, hLock := hLock }) ↔ locks := by
    rw [Locks, snapEntry, snapHgm, snapFresh]
  rw [locking] at rests locked
  rw [snapEntry, snapHgm] at locked
  have mode : (s.starting c).modeOf l k = effectiveMode s.lnk.runState (e.map (·.nLock)) r.requested bite count' fresh := by
    rw [State.modeOf, eq, snapEntry, snapFresh]
    rfl
  have tested : (s.starting c).testedOf l k = dev := by
    rw [State.testedOf, eq, testOf, snapEntry, snapGap, snapForce]
    rfl
  have inputs : (s.starting c).inputOf l k = input ((s.starting c).modeOf l k) lock' := by
    rw [State.inputOf, eq, tested, snapSched, snapEntry, snapHgm]
    rfl
  obtain ⟨stays, switches⟩ := left
  rw [eq, tested, inputs] at stays switches
  change x.switched.get k = false → t' = _ ∧ (_ ∨ _) ∧ kept = _ ∧ _ at stays
  change x.switched.get k = true → t' = _ ∧ kept = _ ∧ _ at switches
  have always : t'.bite = bite ∧ kept.devCount = dev.1 ∧ kept.rPrev = g.rPrev ∧ kept.committed = g.committed ∧
      t'.effective = (s.starting c).modeOf l k := by
    cases switched : x.switched.get k with
    | false =>
      obtain ⟨record, -, gaps, -⟩ := stays switched
      rw [record, gaps]
      exact ⟨rfl, rfl, rfl, rfl, rfl⟩
    | true =>
      obtain ⟨record, gaps, -⟩ := switches switched
      rw [record, gaps]
      exact ⟨rfl, rfl, rfl, rfl, rfl⟩
  obtain ⟨bites, counts, prev, committed, effective⟩ := always
  refine ⟨bites, counts, prev, committed, count', sum', lock', rests, locked, effective.trans mode, fun no => ?_, fun no => ?_, fun yes => ?_⟩
  · exact (stays no).2.1
  · obtain ⟨record, -, gaps, formed⟩ := stays no
    rw [effective]
    refine ⟨?_, ?_, ?_, ?_, ?_, ?_, formed⟩
    · rw [record]
    · rw [record]
    · rw [record]
    · rw [record]
    · rw [gaps]
    · rw [gaps]
  · obtain ⟨record, gaps, d, held, sched, formed⟩ := switches yes
    rw [effective]
    rw [pending] at held
    obtain ⟨h, isPending, rfl⟩ := Option.map_eq_some_iff.mp held
    refine ⟨?_, ?_, ?_, ?_, ?_, ?_, h, isPending, sched, formed⟩
    · rw [record]; rfl
    · rw [record]; rfl
    · rw [record]; rfl
    · rw [record]; rfl
    · rw [gaps]; rfl
    · rw [gaps]; rfl

end Sys2Proof.Machine


/-! ## The causes a compute start detects (R57, R102, R120, R121) -/

namespace Sys2Proof.Machine

open Safety

/-! ### Causes taken -/

/-- R130, R132: TRP has taken a cause: it is the first-out or listed, or the list is full. -/
def State.Takes (s : State) (c : Cause) : Prop := s.trp.latch = true ∧
  ((∃ f, s.trp.firstOut = some f ∧ f.cause.same c = true) ∨ (∃ e ∈ s.trp.list, e.1.same c = true) ∨ 15 ≤ s.trp.list.length)

theorem Cause.same_self (c : Cause) : c.same c = true := by
  cases c <;> simp [Cause.same]

section
variable {s t : State} {c : Cause}

theorem State.Takes.within (h : s.Takes c) (w : s.Within t) : t.Takes c := by
  obtain ⟨latch, how⟩ := h
  obtain ⟨still, first, list⟩ := w.latched latch
  refine ⟨still, ?_⟩
  rw [first]
  rcases how with out | ⟨e, mem, same⟩ | full
  · exact .inl out
  · exact .inr (.inl ⟨e, list.subset mem, same⟩)
  · exact .inr (.inr (full.trans list.length_le))

theorem State.Takes.of_trp (h : s.Takes c) (trp : t.trp = s.trp) : t.Takes c := by
  rw [State.Takes, trp]
  exact h

/-- R130, R132: what is detected is taken. -/
theorem State.detectFrom_takes {x : Trp} (latch : x.latch = s.trp.latch) (time : Word) : (s.detectFrom x c time).Takes c := by
  cases set : s.trp.latch with
  | false =>
    rw [State.Takes, State.detectFrom_clear set]
    exact ⟨rfl, .inl ⟨_, rfl, c.same_self⟩⟩
  | true =>
    rw [State.Takes, State.detectFrom_latched s x c time set, State.setTrp_trp]
    refine ⟨(Trp.listed_latch _ _ _).trans (latch.trans set), ?_⟩
    rw [Trp.listed_firstOut]
    unfold Trp.listed
    dsimp only
    split
    · next known =>
      rcases Bool.or_eq_true_iff.mp known with first | listed
      · cases out : x.firstOut with
        | none => rw [out] at first; exact absurd first Bool.false_ne_true
        | some f => rw [out] at first; exact .inl ⟨f, rfl, first⟩
      · obtain ⟨e, mem, same⟩ := List.any_eq_true.mp listed
        exact .inr (.inl ⟨e, mem, same⟩)
    · split
      · exact .inr (.inl ⟨(c, time), List.mem_append_right _ (List.mem_singleton_self _), c.same_self⟩)
      · next full => exact .inr (.inr (Nat.not_lt.mp full))

theorem State.detect_takes (s : State) (c : Cause) (time : Word) : (s.detect c time).Takes c := State.detectFrom_takes rfl time

end

/-! ### The work turn by turn -/

/-- What a list's work makes of `a` at its turn stands afterwards. -/
theorem State.turn_takes {σ α : Type} {p : σ → State} {f : σ → α → σ} (work : ∀ x a, (p x).Within (p (f x a)))
    {c : Cause} {as : List α} {a : α} (mem : a ∈ as) (x : σ)
    (turn : ∀ before after, as = before ++ a :: after → a ∉ before → (p (f (before.foldl f x) a)).Takes c) : (p (as.foldl f x)).Takes c := by
  obtain ⟨before, after, split, new⟩ := List.eq_append_cons_of_mem mem
  have takes := turn before after split new
  rw [split, List.foldl_append, List.foldl_cons]
  generalize f (before.foldl f x) a = y at takes ⊢
  have rest : (p y).Within (p (after.foldl f y)) := by
    clear takes split
    induction after generalizing y with
    | nil => exact .refl _
    | cons b after ih => exact (work y b).trans (ih (f y b))
  exact takes.within rest

/-! ### Nodes -/

theorem State.losesNode_iff (s : State) (sn : Table 7 StandSnap) (old new : Node) (cause : Cause) :
    s.losesNode sn old new = some cause ↔
      ∃ k, cause = .nodeLost new.address k ∧ new.stand = some k ∧ new.health = .excluded ∧
        (((new.role = .gap ∨ new.role = .force) ∧ old.health ≠ .excluded ∧ (s.stand k).bite = .loaded) ∨
          (new.role = .gap ∧ (sn.get k).change = .headOn)) := by
  have answer {p : Prop} [Decidable p] {k : Stand} : (if p then some (Cause.nodeLost new.address k) else none) = some cause ↔
      cause = .nodeLost new.address k ∧ p := by
    split
    · next holds => exact ⟨fun h => ⟨(Option.some.inj h).symm, holds⟩, fun h => by rw [h.1]⟩
    · next fails => exact ⟨nofun, fun h => absurd h.2 fails⟩
  unfold State.losesNode
  cases stand : new.stand with
  | none =>
    refine ⟨fun h => ?_, fun ⟨k, _, some', _⟩ => nomatch some'⟩
    cases role : new.role <;> rw [role] at h <;> exact nomatch h
  | some k =>
    have only (q : Stand → Prop) : (∃ j, cause = .nodeLost new.address j ∧ some k = some j ∧ q j) ↔
        cause = .nodeLost new.address k ∧ q k :=
      ⟨fun ⟨j, h, same, hq⟩ => by cases same; exact ⟨h, hq⟩, fun ⟨h, hq⟩ => ⟨k, h, rfl, hq⟩⟩
    rw [only]
    cases role : new.role with
    | gap => 
      dsimp only
      rw [answer]
      simp
    | force =>
      dsimp only
      rw [answer]
      simp
    | speed => simp
    | exitGauge => simp

/-- R57: NODE_LOST of a node that hands it is taken. -/
theorem State.detectNodes_takes {s : State} {sn : Table 7 StandSnap} {before : List Node} {old new : Node} {k : Stand}
    (mem : (old, new) ∈ before.zip s.lnk.nodes) (stand : new.stand = some k) (lost : new.health = .excluded)
    (how : ((new.role = .gap ∨ new.role = .force) ∧ old.health ≠ .excluded ∧ (s.stand k).bite = .loaded) ∨
      (new.role = .gap ∧ (sn.get k).change = .headOn)) : (s.detectNodes sn before).Takes (.nodeLost new.address k) := by
  rw [State.detectNodes_eq]
  refine State.turn_takes (p := id) (f := State.detectNode sn) (fun s p => (State.detectNode_senses sn s p).within) mem s fun pre post _ _ => ?_
  have sensed := (Senses.foldl (State.detectNode_senses sn) pre s).sensed
  generalize pre.foldl (State.detectNode sn) s = v at sensed
  have bite : (v.stand k).bite = (s.stand k).bite := by rw [sensed.stands k]
  have loses : v.losesNode sn old new = some (.nodeLost new.address k) :=
    (v.losesNode_iff sn old new _).mpr ⟨k, rfl, stand, lost, by rw [bite]; exact how⟩
  rw [State.detectNode, loses]
  exact State.detect_takes _ _ _

/-! ### FORCE_LIMIT -/

/-- R121: FORCE_LIMIT of a stand, which stood as `was`. -/
def forceLimitOf (p : StandSnap) (was : Bool) : Bool :=
  match p.entry, p.force with
  | none, _ => false
  | some _, (none, _) => false
  | some e, (some f, .fresh) => decide (e.fMax < f)
  | some _, (some _, _) => was

theorem State.judgeForce_cases (sn : Table 7 StandSnap) (s : State) (k : Stand) :
    (∀ was, State.judgeForce sn s k = s.setForceLimit k (forceLimitOf (sn.get k) was)) ∨
      (State.judgeForce sn s k = s ∧ ∀ was, forceLimitOf (sn.get k) was = was) := by
  unfold State.judgeForce forceLimitOf
  dsimp only
  cases (sn.get k).entry with
  | none => exact .inl fun _ => rfl
  | some e =>
    obtain ⟨f | f, mark⟩ := (sn.get k).force
    · exact .inl fun _ => rfl
    · cases mark with
      | fresh => exact .inl fun _ => rfl
      | held => exact .inr ⟨rfl, fun _ => rfl⟩
      | none => exact .inr ⟨rfl, fun _ => rfl⟩

theorem State.setForceLimit_present (s : State) (k : Stand) (b : Bool) :
    (s.setForceLimit k b).trp.present = { s.trp.present with forceLimit := s.trp.present.forceLimit.set k b } :=
  (s.setForceLimit_sense k b).present

theorem State.judgeForce_own (sn : Table 7 StandSnap) (s : State) (k : Stand) :
    (State.judgeForce sn s k).trp.present.forceLimit.get k = forceLimitOf (sn.get k) (s.trp.present.forceLimit.get k) := by
  rcases State.judgeForce_cases sn s k with set | ⟨same, stays⟩
  · rw [set, State.setForceLimit_present]
    exact Table.get_set_same _ _ _
  · rw [same, stays]

theorem State.setLinkSilent_present (s : State) (b : Bool) :
    (s.setLinkSilent b).trp.present = { s.trp.present with linkSilent := b } := (s.setLinkSilent_sense b).present

theorem State.judgeForce_only (sn : Table 7 StandSnap) (s : State) (k : Stand) :
    ∃ forces, (State.judgeForce sn s k).trp.present = { s.trp.present with forceLimit := forces } ∧
      ∀ j, j ≠ k → forces.get j = s.trp.present.forceLimit.get j := by
  rcases State.judgeForce_cases sn s k with set | ⟨same, -⟩
  · rw [set false, State.setForceLimit_present]
    exact ⟨_, rfl, fun j ne => Table.get_set_other _ _ _ _ (Ne.symm ne)⟩
  · rw [same]
    exact ⟨_, rfl, fun _ _ => rfl⟩

theorem State.judgeForces_linkSilent (sn : Table 7 StandSnap) (ks : List Stand) (s : State) :
    (ks.foldl (State.judgeForce sn) s).trp.present.linkSilent = s.trp.present.linkSilent := by
  induction ks generalizing s with
  | nil => rfl
  | cons k ks ih =>
    obtain ⟨forces, present, -⟩ := State.judgeForce_only sn s k
    rw [List.foldl_cons, ih, present]

theorem State.judgeForce_other (sn : Table 7 StandSnap) (s : State) (k j : Stand) (ne : j ≠ k) :
    (State.judgeForce sn s k).trp.present.forceLimit.get j = s.trp.present.forceLimit.get j := by
  obtain ⟨forces, present, other⟩ := State.judgeForce_only sn s k
  rw [present]
  exact other j ne

theorem State.judgeForces_force (sn : Table 7 StandSnap) (s : State) (k : Stand) :
    (allStands.foldl (State.judgeForce sn) s).trp.present.forceLimit.get k =
      forceLimitOf (sn.get k) (s.trp.present.forceLimit.get k) :=
  foldl_allStands (r := fun (s : State) k => s.trp.present.forceLimit.get k) (State.judgeForce_own sn) (State.judgeForce_other sn) s k

/-- R121, R130: a FORCE_LIMIT that joins is taken. -/
theorem State.judgeForces_takes {sn : Table 7 StandSnap} {s : State} {k : Stand} (was : s.trp.present.forceLimit.get k = false)
    (now : forceLimitOf (sn.get k) false = true) : (allStands.foldl (State.judgeForce sn) s).Takes (.forceLimit k) := by
  refine State.turn_takes (p := id) (f := State.judgeForce sn) (State.judgeForce_within sn) (mem_allStands k) s fun before after split new => ?_
  have nodup : before.Nodup := (List.nodup_append.mp (split ▸ (by decide : allStands.Nodup))).1
  have still := foldl_own (r := fun (s : State) k => s.trp.present.forceLimit.get k) (State.judgeForce_own sn) (State.judgeForce_other sn)
    nodup s k
  rw [if_neg new] at still
  generalize before.foldl (State.judgeForce sn) s = v at still ⊢
  have absent : v.trp.present.forceLimit.get k = false := still.trans was
  rcases State.judgeForce_cases sn v k with set | ⟨-, stays⟩
  · rw [set false, now, State.setForceLimit, absent]
    exact State.detectFrom_takes (by rfl) _
  · exact absurd ((stays false).symm.trans now) Bool.false_ne_true

/-- R120, R130: LINK_SILENT that joins is taken. -/
theorem State.setLinkSilent_takes {s : State} (was : s.trp.present.linkSilent = false) : (s.setLinkSilent true).Takes .linkSilent := by
  rw [State.setLinkSilent, was]
  exact State.detectFrom_takes (by rfl) _

/-! ### GAP_DEVIATION -/

/-- R102, R130: a deviation count that is raised to N_dev is taken. -/
theorem State.deviationTests_takes {sn : Table 7 StandSnap} {latch : Bool} {x : State × Table 7 Bool} {k : Stand}
    (trips : deviationTrips (sn.get k).entry (testOf sn latch k (x.1.stand k).bite (x.1.gapStand k)) = true) :
    (allStands.foldl (State.deviationTest sn latch) x).1.Takes (.gapDeviation k) := by
  refine State.turn_takes (p := Prod.fst) (State.deviationTest_within sn latch) (mem_allStands k) x fun before after split new => ?_
  have nodup : before.Nodup := (List.nodup_append.mp (split ▸ (by decide : allStands.Nodup))).1
  have still := foldl_own (State.deviationTest_own sn latch) (State.deviationTest_other sn latch) nodup x k
  rw [if_neg new] at still
  generalize before.foldl (State.deviationTest sn latch) x = v at still ⊢
  obtain ⟨bite, part⟩ := Prod.mk.inj still
  obtain ⟨gap, -⟩ := Prod.mk.inj part
  rw [State.deviationTest_eq, bite, gap, trips]
  exact State.detect_takes _ _ _

/-! ### The whole compute start -/

/-- What stands after the deviation tests stands when the compute start is done. -/
theorem State.computeStart_after {s : State} (order : s.deferredModeOrder = s) (c : Cycle) :
    ((s.computeStart c).trp.present = (s.judged (s.linkedIn c)).1.trp.present) ∧
    ∀ cause, (s.judged (s.linkedIn c)).1.Takes cause → (s.computeStart c).Takes cause := by
  have equation := s.computeStart_eq c
  rw [order] at equation
  generalize stripDropped _ _ = drop at equation
  generalize s.linkedIn c = l at equation ⊢
  have moves := (s.judged l).1.track_moves (G := ofTracking) (.inl rfl) (.inr rfl) l.snaps drop
  generalize (s.judged l).1.track l.snaps drop = w at equation moves
  have trp : (s.computeStart c).trp = w.trp := by rw [equation]; rfl
  exact ⟨by rw [trp, moves.around.present], fun cause takes => (takes.within moves.within).of_trp trp⟩

/-- R57, R101, R102, R120, R121: the detections of a compute start, `m` being the state with the nodes settled and `l` that with
LNK's work done. -/
structure State.Detects (s l j : State) : Prop where
  linkSilent : j.trp.present.linkSilent = decide (l.lnk.silence = 3)
  silentTaken : l.trp.present.linkSilent = false → l.lnk.silence = 3 → j.Takes .linkSilent
  force : ∀ k, j.trp.present.forceLimit.get k = forceLimitOf (l.snaps.get k) (l.trp.present.forceLimit.get k)
  forceTaken : ∀ k, l.trp.present.forceLimit.get k = false → forceLimitOf (l.snaps.get k) false = true → j.Takes (.forceLimit k)
  deviation : ∀ k, deviationTrips (l.snaps.get k).entry (s.testedOf l k) = true → j.Takes (.gapDeviation k)
  nodes : ∀ old new k, (old, new) ∈ s.lnk.nodes.zip l.lnk.nodes → new.stand = some k → new.health = .excluded →
    (((new.role = .gap ∨ new.role = .force) ∧ old.health ≠ .excluded ∧ (l.bittenLocked l.snaps k).1.bite = .loaded) ∨
      (new.role = .gap ∧ (l.snaps.get k).change = .headOn)) → j.Takes (.nodeLost new.address k)

theorem State.deviationTests_present (sn : Table 7 StandSnap) (latch : Bool) (ks : List Stand) (x : State × Table 7 Bool) :
    (ks.foldl (State.deviationTest sn latch) x).1.trp.present = x.1.trp.present := by
  induction ks generalizing x with
  | nil => rfl
  | cons k ks ih =>
    rw [List.foldl_cons, ih]
    exact (State.deviationTest_senses sn latch x k).present_eq

theorem State.judged_detects (s l : State) : s.Detects l (s.judged l).1 := by
  have moded := l.moded_leaves s l.snaps
  unfold State.judged
  rw [State.settleStands_eq]
  have overall := ((l.moded s l.snaps).detected_senses s l.snaps).sensed
  rw [State.detected] at overall ⊢
  generalize l.moded s l.snaps = M at moded overall
  have trp : M.trp = l.trp := by rw [moded.rest]
  have lnk : M.lnk = l.lnk := by rw [moded.rest]
  have bite (k : Stand) : (M.stand k).bite = (l.bittenLocked l.snaps k).1.bite := by rw [moded.stand k]
  have nodesFound := M.detectNodes_senses l.snaps s.lnk.nodes
  have nodesTaken {old new : Node} {k : Stand} := State.detectNodes_takes (s := M) (sn := l.snaps) (before := s.lnk.nodes)
    (old := old) (new := new) (k := k)
  generalize M.detectNodes l.snaps s.lnk.nodes = N at overall nodesFound nodesTaken
  have present : N.trp.present = l.trp.present := by rw [nodesFound.present_eq, trp]
  have silence : N.lnk.silence = l.lnk.silence := by rw [nodesFound.sensed.rest, ← lnk]
  rw [silence] at overall ⊢
  have silentPresent := N.setLinkSilent_present (decide (l.lnk.silence = 3))
  have silentWithin := N.setLinkSilent_within (decide (l.lnk.silence = 3))
  have silentTaken (was : N.trp.present.linkSilent = false) (now : l.lnk.silence = 3) :
      (N.setLinkSilent (decide (l.lnk.silence = 3))).Takes .linkSilent := by
    rw [decide_eq_true now]
    exact State.setLinkSilent_takes was
  generalize N.setLinkSilent (decide (l.lnk.silence = 3)) = S at overall silentPresent silentWithin silentTaken
  have forces := State.judgeForces_force l.snaps S
  have forceSilent := State.judgeForces_linkSilent l.snaps allStands S
  have forceWithin := State.Within.foldl (State.judgeForce_within l.snaps) allStands S
  have forceTaken (k : Stand) := State.judgeForces_takes (sn := l.snaps) (s := S) (k := k)
  generalize allStands.foldl (State.judgeForce l.snaps) S = F at overall forces forceSilent forceWithin forceTaken
  have sequence := Senses.foldl (State.sequenceCheck_senses l.snaps s.trk.windows) allStands F
  generalize allStands.foldl (State.sequenceCheck l.snaps s.trk.windows) F = D at overall sequence
  have tests := State.deviationTests_within l.snaps s.trp.latch allStands (D, Table.fill 7 false)
  have testsPresent := State.deviationTests_present l.snaps s.trp.latch allStands (D, Table.fill 7 false)
  have testsTaken {k : Stand} := State.deviationTests_takes (sn := l.snaps) (latch := s.trp.latch) (x := (D, Table.fill 7 false)) (k := k)
  generalize allStands.foldl (State.deviationTest l.snaps s.trp.latch) (D, Table.fill 7 false) = j at tests testsPresent testsTaken
  have after : F.Within j.1 := sequence.within.trans tests
  have kept : j.1.trp.present = F.trp.present := testsPresent.trans sequence.present_eq
  refine ⟨?_, fun was now => ?_, fun k => ?_, fun k was now => ?_, fun k trips => ?_, fun old new k mem stand lost how => ?_⟩
  · rw [kept, forceSilent, silentPresent]
  · exact ((silentTaken (by rw [present]; exact was) now).within forceWithin).within after
  · rw [kept, forces, silentPresent, present]
  · exact (forceTaken k (by rw [silentPresent, present]; exact was) now).within after
  · have gap : D.gapStand k = (l.bittenLocked l.snaps k).2 := by
      rw [← moded.gap k, overall.rest]
      rfl
    have loaded : (D.stand k).bite = (l.bittenLocked l.snaps k).1.bite := by rw [overall.stands k, ← bite]
    exact testsTaken (by rw [loaded, gap]; exact trips)
  · have taken := nodesTaken (by rw [lnk]; exact mem) stand lost (by rw [bite]; exact how)
    exact ((taken.within silentWithin).within forceWithin).within after

/-- R13, R101: bite and lock-on leave what the deviation test reads of GAP's record. -/
theorem State.bittenLocked_kept (l : State) (sn : Table 7 StandSnap) (k : Stand) : (l.bittenLocked sn k).1.bite = (l.biteOf k).1 ∧
    (l.bittenLocked sn k).2.rPrev = (l.gapStand k).rPrev ∧ (l.bittenLocked sn k).2.devCount = (l.gapStand k).devCount := by
  obtain ⟨count, sum, lock, eq, -⟩ := lockedOn_cases (sn.get k) ((l.stand k).bitten (l.biteOf k), (l.gapStand k).bitten (l.biteOf k))
  rw [State.bittenLocked, eq, StandRec.bitten_eq, GapRec.bitten_eq]
  exact ⟨rfl, rfl, rfl⟩

theorem State.testedOf_eq {s m l : State} {k : Stand} (reads : State.Reads m l k) (gap : l.gapStand k = s.gapStand k) :
    s.testedOf l k = deviationStep (m.entryOf k) (m.biteOf k).1 s.trp.latch (s.gapStand k).rPrev (m.reading .gap (some k))
      (m.reading .force (some k)).1 (s.gapStand k).devCount := by
  obtain ⟨bite, prev, count⟩ := l.bittenLocked_kept l.snaps k
  obtain ⟨snapEntry, snapGap, snapForce, -⟩ := reads.snap
  rw [State.testedOf, testOf, bite, prev, count, snapEntry, snapGap, snapForce, reads.bite, gap]

theorem forceLimitOf_cases {p : StandSnap} (was : Bool) : (p.entry = none ∨ p.force.1 = none → forceLimitOf p was = false) ∧
    ∀ e f, p.entry = some e → p.force.1 = some f → (p.force.2 = .fresh → forceLimitOf p was = decide (e.fMax < f)) ∧
      (p.force.2 ≠ .fresh → forceLimitOf p was = was) := by
  unfold forceLimitOf
  obtain ⟨force, mark⟩ := p.force
  cases p.entry with
  | none => exact ⟨fun _ => rfl, nofun⟩
  | some e =>
    cases force with
    | none => exact ⟨fun _ => rfl, nofun⟩
    | some f =>
      refine ⟨fun h => h.elim nofun nofun, fun e' f' he hf => ?_⟩
      cases he
      cases hf
      cases mark with
      | fresh => exact ⟨fun _ => rfl, fun h => absurd rfl h⟩
      | held => exact ⟨nofun, fun _ => rfl⟩
      | none => exact ⟨nofun, fun _ => rfl⟩

/-- Settles O34: each detection at its turn in the work of the compute start, and what TRP takes stays taken to its end. -/
theorem computeStartDetectsItsCauses : Obligations.ComputeStartDetectsItsCauses := by
  refine ⟨?_, State.losesNode_iff⟩
  intro s c timing nodes m silent settled hc ht now due started idle first none
  have order : (s.starting c).deferredModeOrder = s.starting c := State.deferredModeOrder_none none
  refine ⟨_, exec_replyDeadline_begins settled hc ht now due started idle first, ?_⟩
  obtain ⟨present, takes⟩ := State.computeStart_after order c
  have reads (k : Stand) := State.linkedIn_reads (s := s.starting c) (m := m) (c := c) rfl rfl k
  have linked := (s.starting c).linkedIn_leaves c
  have detects := (s.starting c).judged_detects ((s.starting c).linkedIn c)
  generalize (s.starting c).computeStart c = t at present takes ⊢
  generalize (s.starting c).linkedIn c = l at reads linked detects present takes
  generalize ((s.starting c).judged l).1 = j at detects present takes
  intro taken
  have levels : l.trp.present = s.trp.present := linked.present
  have settledNodes : l.lnk.nodes = nodes := by rw [linked.rest]; rfl
  have silence : l.lnk.silence = 3 ↔ silent := by
    have counted : l.lnk.silence = if nodes.any (fun n => n.result == some true) then 0 else min (s.lnk.silence + 1) 3 := by
      rw [linked.rest]; rfl
    have answered : nodes.any (fun n => n.result == some true) = true ↔ ¬ ∀ n ∈ nodes, n.result ≠ some true := by
      simp only [List.any_eq_true, beq_iff_eq, not_forall, ne_eq, not_not, exists_prop]
    rw [counted]
    split
    · next some' => exact ⟨fun h => absurd h (by decide), fun h => absurd h.2 (answered.mp some')⟩
    · next none' =>
      have all : ∀ n ∈ nodes, n.result ≠ some true := not_not.mp (mt answered.mpr none')
      exact ⟨fun h => ⟨by omega, all⟩, fun h => by have := h.1; omega⟩
  refine ⟨?_, fun was now => takes _ (detects.silentTaken (by rw [levels]; exact was) (silence.mpr now)), fun k => ?_, fun k e entry => ?_,
    fun old new k mem stand lost loaded how => takes _ (detects.nodes old new k ?_ stand lost ?_)⟩
  · rw [present, detects.linkSilent, decide_eq_true_iff]
    exact silence
  · intro here was force
    obtain ⟨snapEntry, -, snapForce, -⟩ := (reads k).snap
    have isHere : here = forceLimitOf (l.snaps.get k) was := by
      show t.trp.present.forceLimit.get k = _
      rw [present, detects.force, levels]
    obtain ⟨absent, judged⟩ := forceLimitOf_cases (p := l.snaps.get k) was
    rw [snapEntry, snapForce, ← isHere] at absent judged
    refine ⟨absent, fun wasNot now => takes _ (detects.forceTaken k (by rw [levels]; exact wasNot) ?_), judged⟩
    rw [isHere, wasNot] at now
    exact now
  · intro dev raised count
    have tested : (s.starting c).testedOf l k = dev := by
      have eq := State.testedOf_eq (s := s.starting c) (reads k) (by rw [linked.rest]; rfl)
      rw [entry] at eq
      exact eq
    refine takes _ (detects.deviation k ?_)
    rw [(reads k).snap.1, entry, tested, deviationTrips, Option.any_some, raised, count, decide_eq_true rfl]
    rfl
  · rw [settledNodes]
    exact mem
  · rw [(l.bittenLocked_kept l.snaps k).1, (reads k).bite, (reads k).snap.2.2.2]
    exact how.imp_left fun ⟨role, was⟩ => ⟨role, was, loaded⟩

end Sys2Proof.Machine
